-- ==== Sys2Proof/Word.lean ====
section
/-! DEFINITION. The two data widths of the core (R9, R11): the `u8` every register, memory byte and
opcode is, and the `u16` of the program counter, the stack pointer, the register pairs and the
addresses. Arithmetic on them is `BitVec` arithmetic, which wraps modulo 2^n as R12 says. -/

namespace Sys2Proof

/-- R11: `u8`. -/
abbrev Byte := BitVec 8

/-- R11: `u16`, the width of addresses, `pc`, `SP` and the register pairs (R9). -/
abbrev Word := BitVec 16

end Sys2Proof
end

