-- ==== Sys2Proof/Syntax.lean ====
section
/-! DEFINITION. The instruction set: one constructor per row of spec/opcode_table.json (245 of the
primary map R133, PREFIX among them, and the 256 of the prefixed map R134). A constructor carries the
immediate bytes its row fetches (R130) and nothing else: registers, conditions, bits and targets are
fixed by the row. Its name is the row's mnemonic with spaces and commas written `_` and a memory operand
`(X)` written `mX` (`mHLI`, `mHLD` for `(HL+)`, `(HL-)`); LAWS.json maps it to the table's spelling. -/

namespace Sys2Proof

/-- One row of the opcode table, with its immediate operand. -/
inductive Instr where
  -- R133, row 0x
  | NOP
  | LD_BC_n16 (n16 : Word)
  | LD_mBC_A
  | INC_BC
  | INC_B
  | DEC_B
  | LD_B_n8 (n8 : Byte)
  | RLCA
  | LD_ma16_SP (a16 : Word)
  | ADD_HL_BC
  | LD_A_mBC
  | DEC_BC
  | INC_C
  | DEC_C
  | LD_C_n8 (n8 : Byte)
  | RRCA
  -- R133, row 1x
  | STOP (ignored : Byte)
  | LD_DE_n16 (n16 : Word)
  | LD_mDE_A
  | INC_DE
  | INC_D
  | DEC_D
  | LD_D_n8 (n8 : Byte)
  | RLA
  | JR_e8 (e8 : Byte)
  | ADD_HL_DE
  | LD_A_mDE
  | DEC_DE
  | INC_E
  | DEC_E
  | LD_E_n8 (n8 : Byte)
  | RRA
  -- R133, row 2x
  | JR_NZ_e8 (e8 : Byte)
  | LD_HL_n16 (n16 : Word)
  | LD_mHLI_A
  | INC_HL
  | INC_H
  | DEC_H
  | LD_H_n8 (n8 : Byte)
  | DAA
  | JR_Z_e8 (e8 : Byte)
  | ADD_HL_HL
  | LD_A_mHLI
  | DEC_HL
  | INC_L
  | DEC_L
  | LD_L_n8 (n8 : Byte)
  | CPL
  -- R133, row 3x
  | JR_NC_e8 (e8 : Byte)
  | LD_SP_n16 (n16 : Word)
  | LD_mHLD_A
  | INC_SP
  | INC_mHL
  | DEC_mHL
  | LD_mHL_n8 (n8 : Byte)
  | SCF
  | JR_C_e8 (e8 : Byte)
  | ADD_HL_SP
  | LD_A_mHLD
  | DEC_SP
  | INC_A
  | DEC_A
  | LD_A_n8 (n8 : Byte)
  | CCF
  -- R133, row 4x
  | LD_B_B
  | LD_B_C
  | LD_B_D
  | LD_B_E
  | LD_B_H
  | LD_B_L
  | LD_B_mHL
  | LD_B_A
  | LD_C_B
  | LD_C_C
  | LD_C_D
  | LD_C_E
  | LD_C_H
  | LD_C_L
  | LD_C_mHL
  | LD_C_A
  -- R133, row 5x
  | LD_D_B
  | LD_D_C
  | LD_D_D
  | LD_D_E
  | LD_D_H
  | LD_D_L
  | LD_D_mHL
  | LD_D_A
  | LD_E_B
  | LD_E_C
  | LD_E_D
  | LD_E_E
  | LD_E_H
  | LD_E_L
  | LD_E_mHL
  | LD_E_A
  -- R133, row 6x
  | LD_H_B
  | LD_H_C
  | LD_H_D
  | LD_H_E
  | LD_H_H
  | LD_H_L
  | LD_H_mHL
  | LD_H_A
  | LD_L_B
  | LD_L_C
  | LD_L_D
  | LD_L_E
  | LD_L_H
  | LD_L_L
  | LD_L_mHL
  | LD_L_A
  -- R133, row 7x
  | LD_mHL_B
  | LD_mHL_C
  | LD_mHL_D
  | LD_mHL_E
  | LD_mHL_H
  | LD_mHL_L
  | HALT
  | LD_mHL_A
  | LD_A_B
  | LD_A_C
  | LD_A_D
  | LD_A_E
  | LD_A_H
  | LD_A_L
  | LD_A_mHL
  | LD_A_A
  -- R133, row 8x
  | ADD_A_B
  | ADD_A_C
  | ADD_A_D
  | ADD_A_E
  | ADD_A_H
  | ADD_A_L
  | ADD_A_mHL
  | ADD_A_A
  | ADC_A_B
  | ADC_A_C
  | ADC_A_D
  | ADC_A_E
  | ADC_A_H
  | ADC_A_L
  | ADC_A_mHL
  | ADC_A_A
  -- R133, row 9x
  | SUB_A_B
  | SUB_A_C
  | SUB_A_D
  | SUB_A_E
  | SUB_A_H
  | SUB_A_L
  | SUB_A_mHL
  | SUB_A_A
  | SBC_A_B
  | SBC_A_C
  | SBC_A_D
  | SBC_A_E
  | SBC_A_H
  | SBC_A_L
  | SBC_A_mHL
  | SBC_A_A
  -- R133, row Ax
  | AND_A_B
  | AND_A_C
  | AND_A_D
  | AND_A_E
  | AND_A_H
  | AND_A_L
  | AND_A_mHL
  | AND_A_A
  | XOR_A_B
  | XOR_A_C
  | XOR_A_D
  | XOR_A_E
  | XOR_A_H
  | XOR_A_L
  | XOR_A_mHL
  | XOR_A_A
  -- R133, row Bx
  | OR_A_B
  | OR_A_C
  | OR_A_D
  | OR_A_E
  | OR_A_H
  | OR_A_L
  | OR_A_mHL
  | OR_A_A
  | CP_A_B
  | CP_A_C
  | CP_A_D
  | CP_A_E
  | CP_A_H
  | CP_A_L
  | CP_A_mHL
  | CP_A_A
  -- R133, row Cx
  | RET_NZ
  | POP_BC
  | JP_NZ_a16 (a16 : Word)
  | JP_a16 (a16 : Word)
  | CALL_NZ_a16 (a16 : Word)
  | PUSH_BC
  | ADD_A_n8 (n8 : Byte)
  | RST_0x00
  | RET_Z
  | RET
  | JP_Z_a16 (a16 : Word)
  | PREFIX (op2 : Byte)
  | CALL_Z_a16 (a16 : Word)
  | CALL_a16 (a16 : Word)
  | ADC_A_n8 (n8 : Byte)
  | RST_0x08
  -- R133, row Dx
  | RET_NC
  | POP_DE
  | JP_NC_a16 (a16 : Word)
  | CALL_NC_a16 (a16 : Word)
  | PUSH_DE
  | SUB_A_n8 (n8 : Byte)
  | RST_0x10
  | RET_C
  | RETI
  | JP_C_a16 (a16 : Word)
  | CALL_C_a16 (a16 : Word)
  | SBC_A_n8 (n8 : Byte)
  | RST_0x18
  -- R133, row Ex
  | LDH_ma8_A (a8 : Byte)
  | POP_HL
  | LDH_mC_A
  | PUSH_HL
  | AND_A_n8 (n8 : Byte)
  | RST_0x20
  | ADD_SP_e8 (e8 : Byte)
  | JP_HL
  | LD_ma16_A (a16 : Word)
  | XOR_A_n8 (n8 : Byte)
  | RST_0x28
  -- R133, row Fx
  | LDH_A_ma8 (a8 : Byte)
  | POP_AF
  | LDH_A_mC
  | DI
  | PUSH_AF
  | OR_A_n8 (n8 : Byte)
  | RST_0x30
  | LD_HL_SP_e8 (e8 : Byte)
  | LD_SP_HL
  | LD_A_ma16 (a16 : Word)
  | EI
  | CP_A_n8 (n8 : Byte)
  | RST_0x38
  -- R134, 0xCB 0x
  | RLC_B
  | RLC_C
  | RLC_D
  | RLC_E
  | RLC_H
  | RLC_L
  | RLC_mHL
  | RLC_A
  | RRC_B
  | RRC_C
  | RRC_D
  | RRC_E
  | RRC_H
  | RRC_L
  | RRC_mHL
  | RRC_A
  -- R134, 0xCB 1x
  | RL_B
  | RL_C
  | RL_D
  | RL_E
  | RL_H
  | RL_L
  | RL_mHL
  | RL_A
  | RR_B
  | RR_C
  | RR_D
  | RR_E
  | RR_H
  | RR_L
  | RR_mHL
  | RR_A
  -- R134, 0xCB 2x
  | SLA_B
  | SLA_C
  | SLA_D
  | SLA_E
  | SLA_H
  | SLA_L
  | SLA_mHL
  | SLA_A
  | SRA_B
  | SRA_C
  | SRA_D
  | SRA_E
  | SRA_H
  | SRA_L
  | SRA_mHL
  | SRA_A
  -- R134, 0xCB 3x
  | SWAP_B
  | SWAP_C
  | SWAP_D
  | SWAP_E
  | SWAP_H
  | SWAP_L
  | SWAP_mHL
  | SWAP_A
  | SRL_B
  | SRL_C
  | SRL_D
  | SRL_E
  | SRL_H
  | SRL_L
  | SRL_mHL
  | SRL_A
  -- R134, 0xCB 4x
  | BIT_0_B
  | BIT_0_C
  | BIT_0_D
  | BIT_0_E
  | BIT_0_H
  | BIT_0_L
  | BIT_0_mHL
  | BIT_0_A
  | BIT_1_B
  | BIT_1_C
  | BIT_1_D
  | BIT_1_E
  | BIT_1_H
  | BIT_1_L
  | BIT_1_mHL
  | BIT_1_A
  -- R134, 0xCB 5x
  | BIT_2_B
  | BIT_2_C
  | BIT_2_D
  | BIT_2_E
  | BIT_2_H
  | BIT_2_L
  | BIT_2_mHL
  | BIT_2_A
  | BIT_3_B
  | BIT_3_C
  | BIT_3_D
  | BIT_3_E
  | BIT_3_H
  | BIT_3_L
  | BIT_3_mHL
  | BIT_3_A
  -- R134, 0xCB 6x
  | BIT_4_B
  | BIT_4_C
  | BIT_4_D
  | BIT_4_E
  | BIT_4_H
  | BIT_4_L
  | BIT_4_mHL
  | BIT_4_A
  | BIT_5_B
  | BIT_5_C
  | BIT_5_D
  | BIT_5_E
  | BIT_5_H
  | BIT_5_L
  | BIT_5_mHL
  | BIT_5_A
  -- R134, 0xCB 7x
  | BIT_6_B
  | BIT_6_C
  | BIT_6_D
  | BIT_6_E
  | BIT_6_H
  | BIT_6_L
  | BIT_6_mHL
  | BIT_6_A
  | BIT_7_B
  | BIT_7_C
  | BIT_7_D
  | BIT_7_E
  | BIT_7_H
  | BIT_7_L
  | BIT_7_mHL
  | BIT_7_A
  -- R134, 0xCB 8x
  | RES_0_B
  | RES_0_C
  | RES_0_D
  | RES_0_E
  | RES_0_H
  | RES_0_L
  | RES_0_mHL
  | RES_0_A
  | RES_1_B
  | RES_1_C
  | RES_1_D
  | RES_1_E
  | RES_1_H
  | RES_1_L
  | RES_1_mHL
  | RES_1_A
  -- R134, 0xCB 9x
  | RES_2_B
  | RES_2_C
  | RES_2_D
  | RES_2_E
  | RES_2_H
  | RES_2_L
  | RES_2_mHL
  | RES_2_A
  | RES_3_B
  | RES_3_C
  | RES_3_D
  | RES_3_E
  | RES_3_H
  | RES_3_L
  | RES_3_mHL
  | RES_3_A
  -- R134, 0xCB Ax
  | RES_4_B
  | RES_4_C
  | RES_4_D
  | RES_4_E
  | RES_4_H
  | RES_4_L
  | RES_4_mHL
  | RES_4_A
  | RES_5_B
  | RES_5_C
  | RES_5_D
  | RES_5_E
  | RES_5_H
  | RES_5_L
  | RES_5_mHL
  | RES_5_A
  -- R134, 0xCB Bx
  | RES_6_B
  | RES_6_C
  | RES_6_D
  | RES_6_E
  | RES_6_H
  | RES_6_L
  | RES_6_mHL
  | RES_6_A
  | RES_7_B
  | RES_7_C
  | RES_7_D
  | RES_7_E
  | RES_7_H
  | RES_7_L
  | RES_7_mHL
  | RES_7_A
  -- R134, 0xCB Cx
  | SET_0_B
  | SET_0_C
  | SET_0_D
  | SET_0_E
  | SET_0_H
  | SET_0_L
  | SET_0_mHL
  | SET_0_A
  | SET_1_B
  | SET_1_C
  | SET_1_D
  | SET_1_E
  | SET_1_H
  | SET_1_L
  | SET_1_mHL
  | SET_1_A
  -- R134, 0xCB Dx
  | SET_2_B
  | SET_2_C
  | SET_2_D
  | SET_2_E
  | SET_2_H
  | SET_2_L
  | SET_2_mHL
  | SET_2_A
  | SET_3_B
  | SET_3_C
  | SET_3_D
  | SET_3_E
  | SET_3_H
  | SET_3_L
  | SET_3_mHL
  | SET_3_A
  -- R134, 0xCB Ex
  | SET_4_B
  | SET_4_C
  | SET_4_D
  | SET_4_E
  | SET_4_H
  | SET_4_L
  | SET_4_mHL
  | SET_4_A
  | SET_5_B
  | SET_5_C
  | SET_5_D
  | SET_5_E
  | SET_5_H
  | SET_5_L
  | SET_5_mHL
  | SET_5_A
  -- R134, 0xCB Fx
  | SET_6_B
  | SET_6_C
  | SET_6_D
  | SET_6_E
  | SET_6_H
  | SET_6_L
  | SET_6_mHL
  | SET_6_A
  | SET_7_B
  | SET_7_C
  | SET_7_D
  | SET_7_E
  | SET_7_H
  | SET_7_L
  | SET_7_mHL
  | SET_7_A
  deriving DecidableEq, Repr

end Sys2Proof
end

