-- ==== Sys2Proof/Decode.lean ====
section
/-! DEFINITION. The decoder and the encoder (30_encoding.md). First the operand fields of an opcode byte
(R121 to R128) and, for each family of rows, the row its fields select. Then the two-level decoder of
R152, total on any bytes: the primary map of R133 and the secondary map of R134, with the unfilled
entries (R135) rejected by name. Then the encoder, written row by row from the opcode table. -/

namespace Sys2Proof

/-! ### Byte order -/

/-- R84, R12: the low byte of a 16-bit value. -/
def loByte (w : Word) : Byte := w.extractLsb' 0 8

/-- R84, R12: the high byte of a 16-bit value. -/
def hiByte (w : Word) : Byte := w.extractLsb' 8 8

/-- R11, R33, R141: `hi ++ lo`, a 16-bit value from its two bytes. -/
def joinBytes (hi lo : Byte) : Word := hi ++ lo

/-! ### Operand fields -/

/-- R122: the registers an r8 field names (F is none of them, R31). -/
inductive Reg8 where
  | b | c | d | e | h | l | a
  deriving DecidableEq, Repr

/-- R122: an r8 operand: a register, or value 6, the byte in memory at HL. -/
inductive Opnd8 where
  | reg (r : Reg8)
  | hl
  deriving DecidableEq, Repr

/-- R123: the r16 field. -/
inductive R16 where
  | bc | de | hl | sp
  deriving DecidableEq, Repr

/-- R124: the r16stk field. -/
inductive R16Stk where
  | bc | de | hl | af
  deriving DecidableEq, Repr

/-- R125: the r16mem field: (BC), (DE), (HL+) and (HL-). -/
inductive R16Mem where
  | bc | de | hli | hld
  deriving DecidableEq, Repr

/-- R126, R500: the cc field. -/
inductive Cond where
  | nz | z | nc | c
  deriving DecidableEq, Repr

/-- R127: the alu field. -/
inductive Alu8 where
  | add | adc | sub | sbc | and | xor | or | cp
  deriving DecidableEq, Repr

/-- R128, group 0: the rotate and shift operations. -/
inductive Rot8 where
  | rlc | rrc | rl | rr | sla | sra | swap | srl
  deriving DecidableEq, Repr

/-- R128: a three-bit index field: the bit index b3 and the RST target field tgt3. -/
inductive B3 where
  | n0 | n1 | n2 | n3 | n4 | n5 | n6 | n7
  deriving DecidableEq, Repr

/-- R128: the number an index field holds. -/
def B3.toNat : B3 → Nat
  | .n0 => 0
  | .n1 => 1
  | .n2 => 2
  | .n3 => 3
  | .n4 => 4
  | .n5 => 5
  | .n6 => 6
  | .n7 => 7

/-- R121: `x = op[7:6]`. -/
def fieldX (op : Byte) : BitVec 2 := op.extractLsb' 6 2

/-- R121: `y = op[5:3]`. -/
def fieldY (op : Byte) : BitVec 3 := op.extractLsb' 3 3

/-- R121: `z = op[2:0]`. -/
def fieldZ (op : Byte) : BitVec 3 := op.extractLsb' 0 3

/-- R122: the operand an r8 field names. -/
def opndOfField (v : BitVec 3) : Opnd8 :=
  match v.toNat with
  | 0 => .reg .b
  | 1 => .reg .c
  | 2 => .reg .d
  | 3 => .reg .e
  | 4 => .reg .h
  | 5 => .reg .l
  | 6 => .hl
  | _ => .reg .a

/-- R128: the operation a group 0 `y` field names. -/
def rotOfField (v : BitVec 3) : Rot8 :=
  match v.toNat with
  | 0 => .rlc
  | 1 => .rrc
  | 2 => .rl
  | 3 => .rr
  | 4 => .sla
  | 5 => .sra
  | 6 => .swap
  | _ => .srl

/-- R128: the index a `y` field holds. -/
def indexOfField (v : BitVec 3) : B3 :=
  match v.toNat with
  | 0 => .n0
  | 1 => .n1
  | 2 => .n2
  | 3 => .n3
  | 4 => .n4
  | 5 => .n5
  | 6 => .n6
  | _ => .n7

/-! ### The row each family's fields select (R127, R128, "Regular structure of the map" in R133) -/

/-- R133, `x = 1`: `LD dst,src` by its two r8 operands; the place of `LD (HL),(HL)` is HALT's (R561). -/
def ldRow (dst src : Opnd8) : Instr :=
  match dst, src with
  | .reg .b, .reg .b => .LD_B_B
  | .reg .b, .reg .c => .LD_B_C
  | .reg .b, .reg .d => .LD_B_D
  | .reg .b, .reg .e => .LD_B_E
  | .reg .b, .reg .h => .LD_B_H
  | .reg .b, .reg .l => .LD_B_L
  | .reg .b, .hl => .LD_B_mHL
  | .reg .b, .reg .a => .LD_B_A
  | .reg .c, .reg .b => .LD_C_B
  | .reg .c, .reg .c => .LD_C_C
  | .reg .c, .reg .d => .LD_C_D
  | .reg .c, .reg .e => .LD_C_E
  | .reg .c, .reg .h => .LD_C_H
  | .reg .c, .reg .l => .LD_C_L
  | .reg .c, .hl => .LD_C_mHL
  | .reg .c, .reg .a => .LD_C_A
  | .reg .d, .reg .b => .LD_D_B
  | .reg .d, .reg .c => .LD_D_C
  | .reg .d, .reg .d => .LD_D_D
  | .reg .d, .reg .e => .LD_D_E
  | .reg .d, .reg .h => .LD_D_H
  | .reg .d, .reg .l => .LD_D_L
  | .reg .d, .hl => .LD_D_mHL
  | .reg .d, .reg .a => .LD_D_A
  | .reg .e, .reg .b => .LD_E_B
  | .reg .e, .reg .c => .LD_E_C
  | .reg .e, .reg .d => .LD_E_D
  | .reg .e, .reg .e => .LD_E_E
  | .reg .e, .reg .h => .LD_E_H
  | .reg .e, .reg .l => .LD_E_L
  | .reg .e, .hl => .LD_E_mHL
  | .reg .e, .reg .a => .LD_E_A
  | .reg .h, .reg .b => .LD_H_B
  | .reg .h, .reg .c => .LD_H_C
  | .reg .h, .reg .d => .LD_H_D
  | .reg .h, .reg .e => .LD_H_E
  | .reg .h, .reg .h => .LD_H_H
  | .reg .h, .reg .l => .LD_H_L
  | .reg .h, .hl => .LD_H_mHL
  | .reg .h, .reg .a => .LD_H_A
  | .reg .l, .reg .b => .LD_L_B
  | .reg .l, .reg .c => .LD_L_C
  | .reg .l, .reg .d => .LD_L_D
  | .reg .l, .reg .e => .LD_L_E
  | .reg .l, .reg .h => .LD_L_H
  | .reg .l, .reg .l => .LD_L_L
  | .reg .l, .hl => .LD_L_mHL
  | .reg .l, .reg .a => .LD_L_A
  | .hl, .reg .b => .LD_mHL_B
  | .hl, .reg .c => .LD_mHL_C
  | .hl, .reg .d => .LD_mHL_D
  | .hl, .reg .e => .LD_mHL_E
  | .hl, .reg .h => .LD_mHL_H
  | .hl, .reg .l => .LD_mHL_L
  | .hl, .hl => .HALT
  | .hl, .reg .a => .LD_mHL_A
  | .reg .a, .reg .b => .LD_A_B
  | .reg .a, .reg .c => .LD_A_C
  | .reg .a, .reg .d => .LD_A_D
  | .reg .a, .reg .e => .LD_A_E
  | .reg .a, .reg .h => .LD_A_H
  | .reg .a, .reg .l => .LD_A_L
  | .reg .a, .hl => .LD_A_mHL
  | .reg .a, .reg .a => .LD_A_A

/-- R133, `x = 0, z = 6`: `LD dst,n8`. -/
def ldImmRow (dst : Opnd8) (n : Byte) : Instr :=
  match dst with
  | .reg .b => .LD_B_n8 n
  | .reg .c => .LD_C_n8 n
  | .reg .d => .LD_D_n8 n
  | .reg .e => .LD_E_n8 n
  | .reg .h => .LD_H_n8 n
  | .reg .l => .LD_L_n8 n
  | .hl => .LD_mHL_n8 n
  | .reg .a => .LD_A_n8 n

/-- R127, R133, `x = 2`: the ALU operation `op` on A and an r8 operand. -/
def aluRow (op : Alu8) (o : Opnd8) : Instr :=
  match op, o with
  | .add, .reg .b => .ADD_A_B
  | .add, .reg .c => .ADD_A_C
  | .add, .reg .d => .ADD_A_D
  | .add, .reg .e => .ADD_A_E
  | .add, .reg .h => .ADD_A_H
  | .add, .reg .l => .ADD_A_L
  | .add, .hl => .ADD_A_mHL
  | .add, .reg .a => .ADD_A_A
  | .adc, .reg .b => .ADC_A_B
  | .adc, .reg .c => .ADC_A_C
  | .adc, .reg .d => .ADC_A_D
  | .adc, .reg .e => .ADC_A_E
  | .adc, .reg .h => .ADC_A_H
  | .adc, .reg .l => .ADC_A_L
  | .adc, .hl => .ADC_A_mHL
  | .adc, .reg .a => .ADC_A_A
  | .sub, .reg .b => .SUB_A_B
  | .sub, .reg .c => .SUB_A_C
  | .sub, .reg .d => .SUB_A_D
  | .sub, .reg .e => .SUB_A_E
  | .sub, .reg .h => .SUB_A_H
  | .sub, .reg .l => .SUB_A_L
  | .sub, .hl => .SUB_A_mHL
  | .sub, .reg .a => .SUB_A_A
  | .sbc, .reg .b => .SBC_A_B
  | .sbc, .reg .c => .SBC_A_C
  | .sbc, .reg .d => .SBC_A_D
  | .sbc, .reg .e => .SBC_A_E
  | .sbc, .reg .h => .SBC_A_H
  | .sbc, .reg .l => .SBC_A_L
  | .sbc, .hl => .SBC_A_mHL
  | .sbc, .reg .a => .SBC_A_A
  | .and, .reg .b => .AND_A_B
  | .and, .reg .c => .AND_A_C
  | .and, .reg .d => .AND_A_D
  | .and, .reg .e => .AND_A_E
  | .and, .reg .h => .AND_A_H
  | .and, .reg .l => .AND_A_L
  | .and, .hl => .AND_A_mHL
  | .and, .reg .a => .AND_A_A
  | .xor, .reg .b => .XOR_A_B
  | .xor, .reg .c => .XOR_A_C
  | .xor, .reg .d => .XOR_A_D
  | .xor, .reg .e => .XOR_A_E
  | .xor, .reg .h => .XOR_A_H
  | .xor, .reg .l => .XOR_A_L
  | .xor, .hl => .XOR_A_mHL
  | .xor, .reg .a => .XOR_A_A
  | .or, .reg .b => .OR_A_B
  | .or, .reg .c => .OR_A_C
  | .or, .reg .d => .OR_A_D
  | .or, .reg .e => .OR_A_E
  | .or, .reg .h => .OR_A_H
  | .or, .reg .l => .OR_A_L
  | .or, .hl => .OR_A_mHL
  | .or, .reg .a => .OR_A_A
  | .cp, .reg .b => .CP_A_B
  | .cp, .reg .c => .CP_A_C
  | .cp, .reg .d => .CP_A_D
  | .cp, .reg .e => .CP_A_E
  | .cp, .reg .h => .CP_A_H
  | .cp, .reg .l => .CP_A_L
  | .cp, .hl => .CP_A_mHL
  | .cp, .reg .a => .CP_A_A

/-- R127, R133, `x = 3, z = 6`: the ALU operation `op` on A and an immediate. -/
def aluImmRow (op : Alu8) (n : Byte) : Instr :=
  match op with
  | .add => .ADD_A_n8 n
  | .adc => .ADC_A_n8 n
  | .sub => .SUB_A_n8 n
  | .sbc => .SBC_A_n8 n
  | .and => .AND_A_n8 n
  | .xor => .XOR_A_n8 n
  | .or => .OR_A_n8 n
  | .cp => .CP_A_n8 n

/-- R133, `x = 0, z = 4`: `INC r` and `INC (HL)`. -/
def incRow (o : Opnd8) : Instr :=
  match o with
  | .reg .b => .INC_B
  | .reg .c => .INC_C
  | .reg .d => .INC_D
  | .reg .e => .INC_E
  | .reg .h => .INC_H
  | .reg .l => .INC_L
  | .hl => .INC_mHL
  | .reg .a => .INC_A

/-- R133, `x = 0, z = 5`: `DEC r` and `DEC (HL)`. -/
def decRow (o : Opnd8) : Instr :=
  match o with
  | .reg .b => .DEC_B
  | .reg .c => .DEC_C
  | .reg .d => .DEC_D
  | .reg .e => .DEC_E
  | .reg .h => .DEC_H
  | .reg .l => .DEC_L
  | .hl => .DEC_mHL
  | .reg .a => .DEC_A

/-- R123, R133: `LD rr,n16`. -/
def ldR16Row (rr : R16) (n : Word) : Instr :=
  match rr with
  | .bc => .LD_BC_n16 n
  | .de => .LD_DE_n16 n
  | .hl => .LD_HL_n16 n
  | .sp => .LD_SP_n16 n

/-- R123, R133: `ADD HL,rr`. -/
def addHLRow (rr : R16) : Instr :=
  match rr with
  | .bc => .ADD_HL_BC
  | .de => .ADD_HL_DE
  | .hl => .ADD_HL_HL
  | .sp => .ADD_HL_SP

/-- R123, R133: `INC rr`. -/
def incR16Row (rr : R16) : Instr :=
  match rr with
  | .bc => .INC_BC
  | .de => .INC_DE
  | .hl => .INC_HL
  | .sp => .INC_SP

/-- R123, R133: `DEC rr`. -/
def decR16Row (rr : R16) : Instr :=
  match rr with
  | .bc => .DEC_BC
  | .de => .DEC_DE
  | .hl => .DEC_HL
  | .sp => .DEC_SP

/-- R125, R133: `LD (rr),A`. -/
def storeARow (m : R16Mem) : Instr :=
  match m with
  | .bc => .LD_mBC_A
  | .de => .LD_mDE_A
  | .hli => .LD_mHLI_A
  | .hld => .LD_mHLD_A

/-- R125, R133: `LD A,(rr)`. -/
def loadARow (m : R16Mem) : Instr :=
  match m with
  | .bc => .LD_A_mBC
  | .de => .LD_A_mDE
  | .hli => .LD_A_mHLI
  | .hld => .LD_A_mHLD

/-- R124, R133: `PUSH rr`. -/
def pushRow (rr : R16Stk) : Instr :=
  match rr with
  | .bc => .PUSH_BC
  | .de => .PUSH_DE
  | .hl => .PUSH_HL
  | .af => .PUSH_AF

/-- R124, R133: `POP rr`, `POP AF` among them. -/
def popRow (rr : R16Stk) : Instr :=
  match rr with
  | .bc => .POP_BC
  | .de => .POP_DE
  | .hl => .POP_HL
  | .af => .POP_AF

/-- R126, R133: `JR cc,e8`. -/
def jrCondRow (cc : Cond) (e : Byte) : Instr :=
  match cc with
  | .nz => .JR_NZ_e8 e
  | .z => .JR_Z_e8 e
  | .nc => .JR_NC_e8 e
  | .c => .JR_C_e8 e

/-- R126, R133: `JP cc,a16`. -/
def jpCondRow (cc : Cond) (t : Word) : Instr :=
  match cc with
  | .nz => .JP_NZ_a16 t
  | .z => .JP_Z_a16 t
  | .nc => .JP_NC_a16 t
  | .c => .JP_C_a16 t

/-- R126, R133: `CALL cc,a16`. -/
def callCondRow (cc : Cond) (t : Word) : Instr :=
  match cc with
  | .nz => .CALL_NZ_a16 t
  | .z => .CALL_Z_a16 t
  | .nc => .CALL_NC_a16 t
  | .c => .CALL_C_a16 t

/-- R126, R133: `RET cc`. -/
def retCondRow (cc : Cond) : Instr :=
  match cc with
  | .nz => .RET_NZ
  | .z => .RET_Z
  | .nc => .RET_NC
  | .c => .RET_C

/-- R128, R133, `x = 3, z = 7`: `RST`, by its target field. -/
def rstRow (y : B3) : Instr :=
  match y with
  | .n0 => .RST_0x00
  | .n1 => .RST_0x08
  | .n2 => .RST_0x10
  | .n3 => .RST_0x18
  | .n4 => .RST_0x20
  | .n5 => .RST_0x28
  | .n6 => .RST_0x30
  | .n7 => .RST_0x38

/-- R128, R134, group 0: the rotate or shift `op` on an r8 operand. -/
def rotRow (op : Rot8) (o : Opnd8) : Instr :=
  match op, o with
  | .rlc, .reg .b => .RLC_B
  | .rlc, .reg .c => .RLC_C
  | .rlc, .reg .d => .RLC_D
  | .rlc, .reg .e => .RLC_E
  | .rlc, .reg .h => .RLC_H
  | .rlc, .reg .l => .RLC_L
  | .rlc, .hl => .RLC_mHL
  | .rlc, .reg .a => .RLC_A
  | .rrc, .reg .b => .RRC_B
  | .rrc, .reg .c => .RRC_C
  | .rrc, .reg .d => .RRC_D
  | .rrc, .reg .e => .RRC_E
  | .rrc, .reg .h => .RRC_H
  | .rrc, .reg .l => .RRC_L
  | .rrc, .hl => .RRC_mHL
  | .rrc, .reg .a => .RRC_A
  | .rl, .reg .b => .RL_B
  | .rl, .reg .c => .RL_C
  | .rl, .reg .d => .RL_D
  | .rl, .reg .e => .RL_E
  | .rl, .reg .h => .RL_H
  | .rl, .reg .l => .RL_L
  | .rl, .hl => .RL_mHL
  | .rl, .reg .a => .RL_A
  | .rr, .reg .b => .RR_B
  | .rr, .reg .c => .RR_C
  | .rr, .reg .d => .RR_D
  | .rr, .reg .e => .RR_E
  | .rr, .reg .h => .RR_H
  | .rr, .reg .l => .RR_L
  | .rr, .hl => .RR_mHL
  | .rr, .reg .a => .RR_A
  | .sla, .reg .b => .SLA_B
  | .sla, .reg .c => .SLA_C
  | .sla, .reg .d => .SLA_D
  | .sla, .reg .e => .SLA_E
  | .sla, .reg .h => .SLA_H
  | .sla, .reg .l => .SLA_L
  | .sla, .hl => .SLA_mHL
  | .sla, .reg .a => .SLA_A
  | .sra, .reg .b => .SRA_B
  | .sra, .reg .c => .SRA_C
  | .sra, .reg .d => .SRA_D
  | .sra, .reg .e => .SRA_E
  | .sra, .reg .h => .SRA_H
  | .sra, .reg .l => .SRA_L
  | .sra, .hl => .SRA_mHL
  | .sra, .reg .a => .SRA_A
  | .swap, .reg .b => .SWAP_B
  | .swap, .reg .c => .SWAP_C
  | .swap, .reg .d => .SWAP_D
  | .swap, .reg .e => .SWAP_E
  | .swap, .reg .h => .SWAP_H
  | .swap, .reg .l => .SWAP_L
  | .swap, .hl => .SWAP_mHL
  | .swap, .reg .a => .SWAP_A
  | .srl, .reg .b => .SRL_B
  | .srl, .reg .c => .SRL_C
  | .srl, .reg .d => .SRL_D
  | .srl, .reg .e => .SRL_E
  | .srl, .reg .h => .SRL_H
  | .srl, .reg .l => .SRL_L
  | .srl, .hl => .SRL_mHL
  | .srl, .reg .a => .SRL_A

/-- R128, R134, group 1: `BIT b,r8`. -/
def bitRow (b : B3) (o : Opnd8) : Instr :=
  match b, o with
  | .n0, .reg .b => .BIT_0_B
  | .n0, .reg .c => .BIT_0_C
  | .n0, .reg .d => .BIT_0_D
  | .n0, .reg .e => .BIT_0_E
  | .n0, .reg .h => .BIT_0_H
  | .n0, .reg .l => .BIT_0_L
  | .n0, .hl => .BIT_0_mHL
  | .n0, .reg .a => .BIT_0_A
  | .n1, .reg .b => .BIT_1_B
  | .n1, .reg .c => .BIT_1_C
  | .n1, .reg .d => .BIT_1_D
  | .n1, .reg .e => .BIT_1_E
  | .n1, .reg .h => .BIT_1_H
  | .n1, .reg .l => .BIT_1_L
  | .n1, .hl => .BIT_1_mHL
  | .n1, .reg .a => .BIT_1_A
  | .n2, .reg .b => .BIT_2_B
  | .n2, .reg .c => .BIT_2_C
  | .n2, .reg .d => .BIT_2_D
  | .n2, .reg .e => .BIT_2_E
  | .n2, .reg .h => .BIT_2_H
  | .n2, .reg .l => .BIT_2_L
  | .n2, .hl => .BIT_2_mHL
  | .n2, .reg .a => .BIT_2_A
  | .n3, .reg .b => .BIT_3_B
  | .n3, .reg .c => .BIT_3_C
  | .n3, .reg .d => .BIT_3_D
  | .n3, .reg .e => .BIT_3_E
  | .n3, .reg .h => .BIT_3_H
  | .n3, .reg .l => .BIT_3_L
  | .n3, .hl => .BIT_3_mHL
  | .n3, .reg .a => .BIT_3_A
  | .n4, .reg .b => .BIT_4_B
  | .n4, .reg .c => .BIT_4_C
  | .n4, .reg .d => .BIT_4_D
  | .n4, .reg .e => .BIT_4_E
  | .n4, .reg .h => .BIT_4_H
  | .n4, .reg .l => .BIT_4_L
  | .n4, .hl => .BIT_4_mHL
  | .n4, .reg .a => .BIT_4_A
  | .n5, .reg .b => .BIT_5_B
  | .n5, .reg .c => .BIT_5_C
  | .n5, .reg .d => .BIT_5_D
  | .n5, .reg .e => .BIT_5_E
  | .n5, .reg .h => .BIT_5_H
  | .n5, .reg .l => .BIT_5_L
  | .n5, .hl => .BIT_5_mHL
  | .n5, .reg .a => .BIT_5_A
  | .n6, .reg .b => .BIT_6_B
  | .n6, .reg .c => .BIT_6_C
  | .n6, .reg .d => .BIT_6_D
  | .n6, .reg .e => .BIT_6_E
  | .n6, .reg .h => .BIT_6_H
  | .n6, .reg .l => .BIT_6_L
  | .n6, .hl => .BIT_6_mHL
  | .n6, .reg .a => .BIT_6_A
  | .n7, .reg .b => .BIT_7_B
  | .n7, .reg .c => .BIT_7_C
  | .n7, .reg .d => .BIT_7_D
  | .n7, .reg .e => .BIT_7_E
  | .n7, .reg .h => .BIT_7_H
  | .n7, .reg .l => .BIT_7_L
  | .n7, .hl => .BIT_7_mHL
  | .n7, .reg .a => .BIT_7_A

/-- R128, R134, group 2: `RES b,r8`. -/
def resRow (b : B3) (o : Opnd8) : Instr :=
  match b, o with
  | .n0, .reg .b => .RES_0_B
  | .n0, .reg .c => .RES_0_C
  | .n0, .reg .d => .RES_0_D
  | .n0, .reg .e => .RES_0_E
  | .n0, .reg .h => .RES_0_H
  | .n0, .reg .l => .RES_0_L
  | .n0, .hl => .RES_0_mHL
  | .n0, .reg .a => .RES_0_A
  | .n1, .reg .b => .RES_1_B
  | .n1, .reg .c => .RES_1_C
  | .n1, .reg .d => .RES_1_D
  | .n1, .reg .e => .RES_1_E
  | .n1, .reg .h => .RES_1_H
  | .n1, .reg .l => .RES_1_L
  | .n1, .hl => .RES_1_mHL
  | .n1, .reg .a => .RES_1_A
  | .n2, .reg .b => .RES_2_B
  | .n2, .reg .c => .RES_2_C
  | .n2, .reg .d => .RES_2_D
  | .n2, .reg .e => .RES_2_E
  | .n2, .reg .h => .RES_2_H
  | .n2, .reg .l => .RES_2_L
  | .n2, .hl => .RES_2_mHL
  | .n2, .reg .a => .RES_2_A
  | .n3, .reg .b => .RES_3_B
  | .n3, .reg .c => .RES_3_C
  | .n3, .reg .d => .RES_3_D
  | .n3, .reg .e => .RES_3_E
  | .n3, .reg .h => .RES_3_H
  | .n3, .reg .l => .RES_3_L
  | .n3, .hl => .RES_3_mHL
  | .n3, .reg .a => .RES_3_A
  | .n4, .reg .b => .RES_4_B
  | .n4, .reg .c => .RES_4_C
  | .n4, .reg .d => .RES_4_D
  | .n4, .reg .e => .RES_4_E
  | .n4, .reg .h => .RES_4_H
  | .n4, .reg .l => .RES_4_L
  | .n4, .hl => .RES_4_mHL
  | .n4, .reg .a => .RES_4_A
  | .n5, .reg .b => .RES_5_B
  | .n5, .reg .c => .RES_5_C
  | .n5, .reg .d => .RES_5_D
  | .n5, .reg .e => .RES_5_E
  | .n5, .reg .h => .RES_5_H
  | .n5, .reg .l => .RES_5_L
  | .n5, .hl => .RES_5_mHL
  | .n5, .reg .a => .RES_5_A
  | .n6, .reg .b => .RES_6_B
  | .n6, .reg .c => .RES_6_C
  | .n6, .reg .d => .RES_6_D
  | .n6, .reg .e => .RES_6_E
  | .n6, .reg .h => .RES_6_H
  | .n6, .reg .l => .RES_6_L
  | .n6, .hl => .RES_6_mHL
  | .n6, .reg .a => .RES_6_A
  | .n7, .reg .b => .RES_7_B
  | .n7, .reg .c => .RES_7_C
  | .n7, .reg .d => .RES_7_D
  | .n7, .reg .e => .RES_7_E
  | .n7, .reg .h => .RES_7_H
  | .n7, .reg .l => .RES_7_L
  | .n7, .hl => .RES_7_mHL
  | .n7, .reg .a => .RES_7_A

/-- R128, R134, group 3: `SET b,r8`. -/
def setRow (b : B3) (o : Opnd8) : Instr :=
  match b, o with
  | .n0, .reg .b => .SET_0_B
  | .n0, .reg .c => .SET_0_C
  | .n0, .reg .d => .SET_0_D
  | .n0, .reg .e => .SET_0_E
  | .n0, .reg .h => .SET_0_H
  | .n0, .reg .l => .SET_0_L
  | .n0, .hl => .SET_0_mHL
  | .n0, .reg .a => .SET_0_A
  | .n1, .reg .b => .SET_1_B
  | .n1, .reg .c => .SET_1_C
  | .n1, .reg .d => .SET_1_D
  | .n1, .reg .e => .SET_1_E
  | .n1, .reg .h => .SET_1_H
  | .n1, .reg .l => .SET_1_L
  | .n1, .hl => .SET_1_mHL
  | .n1, .reg .a => .SET_1_A
  | .n2, .reg .b => .SET_2_B
  | .n2, .reg .c => .SET_2_C
  | .n2, .reg .d => .SET_2_D
  | .n2, .reg .e => .SET_2_E
  | .n2, .reg .h => .SET_2_H
  | .n2, .reg .l => .SET_2_L
  | .n2, .hl => .SET_2_mHL
  | .n2, .reg .a => .SET_2_A
  | .n3, .reg .b => .SET_3_B
  | .n3, .reg .c => .SET_3_C
  | .n3, .reg .d => .SET_3_D
  | .n3, .reg .e => .SET_3_E
  | .n3, .reg .h => .SET_3_H
  | .n3, .reg .l => .SET_3_L
  | .n3, .hl => .SET_3_mHL
  | .n3, .reg .a => .SET_3_A
  | .n4, .reg .b => .SET_4_B
  | .n4, .reg .c => .SET_4_C
  | .n4, .reg .d => .SET_4_D
  | .n4, .reg .e => .SET_4_E
  | .n4, .reg .h => .SET_4_H
  | .n4, .reg .l => .SET_4_L
  | .n4, .hl => .SET_4_mHL
  | .n4, .reg .a => .SET_4_A
  | .n5, .reg .b => .SET_5_B
  | .n5, .reg .c => .SET_5_C
  | .n5, .reg .d => .SET_5_D
  | .n5, .reg .e => .SET_5_E
  | .n5, .reg .h => .SET_5_H
  | .n5, .reg .l => .SET_5_L
  | .n5, .hl => .SET_5_mHL
  | .n5, .reg .a => .SET_5_A
  | .n6, .reg .b => .SET_6_B
  | .n6, .reg .c => .SET_6_C
  | .n6, .reg .d => .SET_6_D
  | .n6, .reg .e => .SET_6_E
  | .n6, .reg .h => .SET_6_H
  | .n6, .reg .l => .SET_6_L
  | .n6, .hl => .SET_6_mHL
  | .n6, .reg .a => .SET_6_A
  | .n7, .reg .b => .SET_7_B
  | .n7, .reg .c => .SET_7_C
  | .n7, .reg .d => .SET_7_D
  | .n7, .reg .e => .SET_7_E
  | .n7, .reg .h => .SET_7_H
  | .n7, .reg .l => .SET_7_L
  | .n7, .hl => .SET_7_mHL
  | .n7, .reg .a => .SET_7_A

/-! ### The primary map (R133), row by row -/

/-- R133, row 0x, with the immediates the row's entries take. -/
def primaryRow0 (n8 : Byte) (n16 : Word) : List (Option Instr) :=
  [some .NOP, some (.LD_BC_n16 n16), some .LD_mBC_A, some .INC_BC,
   some .INC_B, some .DEC_B, some (.LD_B_n8 n8), some .RLCA,
   some (.LD_ma16_SP n16), some .ADD_HL_BC, some .LD_A_mBC, some .DEC_BC,
   some .INC_C, some .DEC_C, some (.LD_C_n8 n8), some .RRCA]

/-- R133, row 1x, with the immediates the row's entries take. -/
def primaryRow1 (n8 : Byte) (n16 : Word) : List (Option Instr) :=
  [some (.STOP n8), some (.LD_DE_n16 n16), some .LD_mDE_A, some .INC_DE,
   some .INC_D, some .DEC_D, some (.LD_D_n8 n8), some .RLA,
   some (.JR_e8 n8), some .ADD_HL_DE, some .LD_A_mDE, some .DEC_DE,
   some .INC_E, some .DEC_E, some (.LD_E_n8 n8), some .RRA]

/-- R133, row 2x, with the immediates the row's entries take. -/
def primaryRow2 (n8 : Byte) (n16 : Word) : List (Option Instr) :=
  [some (.JR_NZ_e8 n8), some (.LD_HL_n16 n16), some .LD_mHLI_A, some .INC_HL,
   some .INC_H, some .DEC_H, some (.LD_H_n8 n8), some .DAA,
   some (.JR_Z_e8 n8), some .ADD_HL_HL, some .LD_A_mHLI, some .DEC_HL,
   some .INC_L, some .DEC_L, some (.LD_L_n8 n8), some .CPL]

/-- R133, row 3x, with the immediates the row's entries take. -/
def primaryRow3 (n8 : Byte) (n16 : Word) : List (Option Instr) :=
  [some (.JR_NC_e8 n8), some (.LD_SP_n16 n16), some .LD_mHLD_A, some .INC_SP,
   some .INC_mHL, some .DEC_mHL, some (.LD_mHL_n8 n8), some .SCF,
   some (.JR_C_e8 n8), some .ADD_HL_SP, some .LD_A_mHLD, some .DEC_SP,
   some .INC_A, some .DEC_A, some (.LD_A_n8 n8), some .CCF]

/-- R133, row 4x, with the immediates the row's entries take. -/
def primaryRow4 (_n8 : Byte) (_n16 : Word) : List (Option Instr) :=
  [some .LD_B_B, some .LD_B_C, some .LD_B_D, some .LD_B_E,
   some .LD_B_H, some .LD_B_L, some .LD_B_mHL, some .LD_B_A,
   some .LD_C_B, some .LD_C_C, some .LD_C_D, some .LD_C_E,
   some .LD_C_H, some .LD_C_L, some .LD_C_mHL, some .LD_C_A]

/-- R133, row 5x, with the immediates the row's entries take. -/
def primaryRow5 (_n8 : Byte) (_n16 : Word) : List (Option Instr) :=
  [some .LD_D_B, some .LD_D_C, some .LD_D_D, some .LD_D_E,
   some .LD_D_H, some .LD_D_L, some .LD_D_mHL, some .LD_D_A,
   some .LD_E_B, some .LD_E_C, some .LD_E_D, some .LD_E_E,
   some .LD_E_H, some .LD_E_L, some .LD_E_mHL, some .LD_E_A]

/-- R133, row 6x, with the immediates the row's entries take. -/
def primaryRow6 (_n8 : Byte) (_n16 : Word) : List (Option Instr) :=
  [some .LD_H_B, some .LD_H_C, some .LD_H_D, some .LD_H_E,
   some .LD_H_H, some .LD_H_L, some .LD_H_mHL, some .LD_H_A,
   some .LD_L_B, some .LD_L_C, some .LD_L_D, some .LD_L_E,
   some .LD_L_H, some .LD_L_L, some .LD_L_mHL, some .LD_L_A]

/-- R133, row 7x, with the immediates the row's entries take. -/
def primaryRow7 (_n8 : Byte) (_n16 : Word) : List (Option Instr) :=
  [some .LD_mHL_B, some .LD_mHL_C, some .LD_mHL_D, some .LD_mHL_E,
   some .LD_mHL_H, some .LD_mHL_L, some .HALT, some .LD_mHL_A,
   some .LD_A_B, some .LD_A_C, some .LD_A_D, some .LD_A_E,
   some .LD_A_H, some .LD_A_L, some .LD_A_mHL, some .LD_A_A]

/-- R133, row 8x, with the immediates the row's entries take. -/
def primaryRow8 (_n8 : Byte) (_n16 : Word) : List (Option Instr) :=
  [some .ADD_A_B, some .ADD_A_C, some .ADD_A_D, some .ADD_A_E,
   some .ADD_A_H, some .ADD_A_L, some .ADD_A_mHL, some .ADD_A_A,
   some .ADC_A_B, some .ADC_A_C, some .ADC_A_D, some .ADC_A_E,
   some .ADC_A_H, some .ADC_A_L, some .ADC_A_mHL, some .ADC_A_A]

/-- R133, row 9x, with the immediates the row's entries take. -/
def primaryRow9 (_n8 : Byte) (_n16 : Word) : List (Option Instr) :=
  [some .SUB_A_B, some .SUB_A_C, some .SUB_A_D, some .SUB_A_E,
   some .SUB_A_H, some .SUB_A_L, some .SUB_A_mHL, some .SUB_A_A,
   some .SBC_A_B, some .SBC_A_C, some .SBC_A_D, some .SBC_A_E,
   some .SBC_A_H, some .SBC_A_L, some .SBC_A_mHL, some .SBC_A_A]

/-- R133, row Ax, with the immediates the row's entries take. -/
def primaryRowA (_n8 : Byte) (_n16 : Word) : List (Option Instr) :=
  [some .AND_A_B, some .AND_A_C, some .AND_A_D, some .AND_A_E,
   some .AND_A_H, some .AND_A_L, some .AND_A_mHL, some .AND_A_A,
   some .XOR_A_B, some .XOR_A_C, some .XOR_A_D, some .XOR_A_E,
   some .XOR_A_H, some .XOR_A_L, some .XOR_A_mHL, some .XOR_A_A]

/-- R133, row Bx, with the immediates the row's entries take. -/
def primaryRowB (_n8 : Byte) (_n16 : Word) : List (Option Instr) :=
  [some .OR_A_B, some .OR_A_C, some .OR_A_D, some .OR_A_E,
   some .OR_A_H, some .OR_A_L, some .OR_A_mHL, some .OR_A_A,
   some .CP_A_B, some .CP_A_C, some .CP_A_D, some .CP_A_E,
   some .CP_A_H, some .CP_A_L, some .CP_A_mHL, some .CP_A_A]

/-- R133, row Cx, with the immediates the row's entries take. -/
def primaryRowC (n8 : Byte) (n16 : Word) : List (Option Instr) :=
  [some .RET_NZ, some .POP_BC, some (.JP_NZ_a16 n16), some (.JP_a16 n16),
   some (.CALL_NZ_a16 n16), some .PUSH_BC, some (.ADD_A_n8 n8), some .RST_0x00,
   some .RET_Z, some .RET, some (.JP_Z_a16 n16), some (.PREFIX n8),
   some (.CALL_Z_a16 n16), some (.CALL_a16 n16), some (.ADC_A_n8 n8), some .RST_0x08]

/-- R133, row Dx, with the immediates the row's entries take. -/
def primaryRowD (n8 : Byte) (n16 : Word) : List (Option Instr) :=
  [some .RET_NC, some .POP_DE, some (.JP_NC_a16 n16), none,
   some (.CALL_NC_a16 n16), some .PUSH_DE, some (.SUB_A_n8 n8), some .RST_0x10,
   some .RET_C, some .RETI, some (.JP_C_a16 n16), none,
   some (.CALL_C_a16 n16), none, some (.SBC_A_n8 n8), some .RST_0x18]

/-- R133, row Ex, with the immediates the row's entries take. -/
def primaryRowE (n8 : Byte) (n16 : Word) : List (Option Instr) :=
  [some (.LDH_ma8_A n8), some .POP_HL, some .LDH_mC_A, none,
   none, some .PUSH_HL, some (.AND_A_n8 n8), some .RST_0x20,
   some (.ADD_SP_e8 n8), some .JP_HL, some (.LD_ma16_A n16), none,
   none, none, some (.XOR_A_n8 n8), some .RST_0x28]

/-- R133, row Fx, with the immediates the row's entries take. -/
def primaryRowF (n8 : Byte) (n16 : Word) : List (Option Instr) :=
  [some (.LDH_A_ma8 n8), some .POP_AF, some .LDH_A_mC, some .DI,
   none, some .PUSH_AF, some (.OR_A_n8 n8), some .RST_0x30,
   some (.LD_HL_SP_e8 n8), some .LD_SP_HL, some (.LD_A_ma16 n16), some .EI,
   none, none, some (.CP_A_n8 n8), some .RST_0x38]

/-- R133: the 256 entries of the primary map for given immediates; `none` is an unfilled entry (R135). -/
def primaryMap (n8 : Byte) (n16 : Word) : List (Option Instr) :=
  primaryRow0 n8 n16 ++ primaryRow1 n8 n16 ++ primaryRow2 n8 n16 ++ primaryRow3 n8 n16 ++
  primaryRow4 n8 n16 ++ primaryRow5 n8 n16 ++ primaryRow6 n8 n16 ++ primaryRow7 n8 n16 ++
  primaryRow8 n8 n16 ++ primaryRow9 n8 n16 ++ primaryRowA n8 n16 ++ primaryRowB n8 n16 ++
  primaryRowC n8 n16 ++ primaryRowD n8 n16 ++ primaryRowE n8 n16 ++ primaryRowF n8 n16

/-- R152: the primary table's entry for `op`, given the two bytes that follow it. -/
def decodePrimary (op b1 b2 : Byte) : Option Instr :=
  (primaryMap b1 (joinBytes b2 b1)).getD op.toNat none

/-- R134, R128: the secondary table's entry for the byte after 0xCB; every entry is filled. -/
def decodeSecondary (op2 : Byte) : Instr :=
  match (fieldX op2).toNat with
  | 0 => rotRow (rotOfField (fieldY op2)) (opndOfField (fieldZ op2))
  | 1 => bitRow (indexOfField (fieldY op2)) (opndOfField (fieldZ op2))
  | 2 => resRow (indexOfField (fieldY op2)) (opndOfField (fieldZ op2))
  | _ => setRow (indexOfField (fieldY op2)) (opndOfField (fieldZ op2))

/-! ### Lengths -/

/-- R132, R133: the opcodes with one byte after them: an n8, e8 or a8 immediate, STOP's ignored byte, or
the second byte of a prefixed instruction. -/
def twoByteOpcodes : List Byte :=
  [0x06, 0x0E, 0x16, 0x1E, 0x26, 0x2E, 0x36, 0x3E] ++ [0x10, 0x18, 0x20, 0x28, 0x30, 0x38] ++
  [0xC6, 0xCE, 0xD6, 0xDE, 0xE6, 0xEE, 0xF6, 0xFE] ++ [0xCB, 0xE0, 0xE8, 0xF0, 0xF8]

/-- R132, R133: the opcodes with an n16 or a16 immediate. -/
def threeByteOpcodes : List Byte :=
  [0x01, 0x08, 0x11, 0x21, 0x31] ++ [0xC2, 0xC3, 0xC4, 0xCA, 0xCC, 0xCD] ++
  [0xD2, 0xD4, 0xDA, 0xDC, 0xEA, 0xFA]

/-- R132: the length of an instruction, from its first byte alone. -/
def opLength (op : Byte) : Nat :=
  if threeByteOpcodes.contains op then 3 else if twoByteOpcodes.contains op then 2 else 1

/-! ### The decoder -/

/-- Why bytes decode to no instruction. -/
inductive DecodeError where
  /-- R135: the opcode's primary entry is unfilled. -/
  | unimplementedOpcode (op : Byte)
  /-- The bytes end before the instruction does. -/
  | truncated
  deriving DecidableEq, Repr

/-- R151, R565: the entry that runs: `PREFIX` gives way to the secondary entry its second byte selects. -/
def resolvePrefix (i : Instr) : Instr :=
  match i with
  | .PREFIX op2 => decodeSecondary op2
  | i => i

/-- R152: the instruction at the head of `bs` and the bytes after it. -/
def decode (bs : List Byte) : Except DecodeError (Instr × List Byte) :=
  match bs with
  | [] => .error .truncated
  | op :: rest =>
    if rest.length + 1 < opLength op then .error .truncated
    else
      match decodePrimary op (rest.getD 0 0) (rest.getD 1 0) with
      | none => .error (.unimplementedOpcode op)
      | some i => .ok (resolvePrefix i, rest.drop (opLength op - 1))

/-! ### Words numbered as spec/opcode_table.json numbers them -/

/-- The three bytes, first at the lowest address, of an instruction whose bits are `w`. The table writes
a row of 9 to 16 bits, one of the secondary table, with 0xCB in the bits 15..8; any other word has its
first byte in the bits 7..0. Bits from `nbits` up are 0. DEDUCED, assumption 10. -/
def tableBytes (nbits w : Nat) : List Byte :=
  let v := w % 2 ^ nbits
  let b0 : Byte := BitVec.ofNat 8 v
  let b1 : Byte := BitVec.ofNat 8 (v / 256)
  let b2 : Byte := BitVec.ofNat 8 (v / 65536)
  if nbits ≤ 16 ∧ b1 = 0xCB then [0xCB, b0, 0] else [b0, b1, b2]

/-- The instruction of the row whose bits are `w`. A row of at most 8 bits is an entry of the primary
table, and the answer is that entry, the first level of R152 (0xCB alone is the row `PREFIX`); a wider
row goes through both levels. -/
def decodeTableWord (nbits w : Nat) : Option Instr :=
  let bs := tableBytes nbits w
  if nbits ≤ 8 then decodePrimary (bs.getD 0 0) (bs.getD 1 0) (bs.getD 2 0)
  else
    match decode bs with
    | .ok (i, _) => some i
    | .error _ => none

/-! ### The encoder -/

/-- R120, R133, R134: the bytes of an instruction in the order they stand in memory, from the opcode
table's `match` and the format of its row (16-bit immediates low byte first, R130). -/
def encode (i : Instr) : List Byte :=
  match i with
  | .NOP => [0x00]
  | .LD_BC_n16 n => [0x01, loByte n, hiByte n]
  | .LD_mBC_A => [0x02]
  | .INC_BC => [0x03]
  | .INC_B => [0x04]
  | .DEC_B => [0x05]
  | .LD_B_n8 n => [0x06, n]
  | .RLCA => [0x07]
  | .LD_ma16_SP n => [0x08, loByte n, hiByte n]
  | .ADD_HL_BC => [0x09]
  | .LD_A_mBC => [0x0A]
  | .DEC_BC => [0x0B]
  | .INC_C => [0x0C]
  | .DEC_C => [0x0D]
  | .LD_C_n8 n => [0x0E, n]
  | .RRCA => [0x0F]
  | .STOP n => [0x10, n]
  | .LD_DE_n16 n => [0x11, loByte n, hiByte n]
  | .LD_mDE_A => [0x12]
  | .INC_DE => [0x13]
  | .INC_D => [0x14]
  | .DEC_D => [0x15]
  | .LD_D_n8 n => [0x16, n]
  | .RLA => [0x17]
  | .JR_e8 n => [0x18, n]
  | .ADD_HL_DE => [0x19]
  | .LD_A_mDE => [0x1A]
  | .DEC_DE => [0x1B]
  | .INC_E => [0x1C]
  | .DEC_E => [0x1D]
  | .LD_E_n8 n => [0x1E, n]
  | .RRA => [0x1F]
  | .JR_NZ_e8 n => [0x20, n]
  | .LD_HL_n16 n => [0x21, loByte n, hiByte n]
  | .LD_mHLI_A => [0x22]
  | .INC_HL => [0x23]
  | .INC_H => [0x24]
  | .DEC_H => [0x25]
  | .LD_H_n8 n => [0x26, n]
  | .DAA => [0x27]
  | .JR_Z_e8 n => [0x28, n]
  | .ADD_HL_HL => [0x29]
  | .LD_A_mHLI => [0x2A]
  | .DEC_HL => [0x2B]
  | .INC_L => [0x2C]
  | .DEC_L => [0x2D]
  | .LD_L_n8 n => [0x2E, n]
  | .CPL => [0x2F]
  | .JR_NC_e8 n => [0x30, n]
  | .LD_SP_n16 n => [0x31, loByte n, hiByte n]
  | .LD_mHLD_A => [0x32]
  | .INC_SP => [0x33]
  | .INC_mHL => [0x34]
  | .DEC_mHL => [0x35]
  | .LD_mHL_n8 n => [0x36, n]
  | .SCF => [0x37]
  | .JR_C_e8 n => [0x38, n]
  | .ADD_HL_SP => [0x39]
  | .LD_A_mHLD => [0x3A]
  | .DEC_SP => [0x3B]
  | .INC_A => [0x3C]
  | .DEC_A => [0x3D]
  | .LD_A_n8 n => [0x3E, n]
  | .CCF => [0x3F]
  | .LD_B_B => [0x40]
  | .LD_B_C => [0x41]
  | .LD_B_D => [0x42]
  | .LD_B_E => [0x43]
  | .LD_B_H => [0x44]
  | .LD_B_L => [0x45]
  | .LD_B_mHL => [0x46]
  | .LD_B_A => [0x47]
  | .LD_C_B => [0x48]
  | .LD_C_C => [0x49]
  | .LD_C_D => [0x4A]
  | .LD_C_E => [0x4B]
  | .LD_C_H => [0x4C]
  | .LD_C_L => [0x4D]
  | .LD_C_mHL => [0x4E]
  | .LD_C_A => [0x4F]
  | .LD_D_B => [0x50]
  | .LD_D_C => [0x51]
  | .LD_D_D => [0x52]
  | .LD_D_E => [0x53]
  | .LD_D_H => [0x54]
  | .LD_D_L => [0x55]
  | .LD_D_mHL => [0x56]
  | .LD_D_A => [0x57]
  | .LD_E_B => [0x58]
  | .LD_E_C => [0x59]
  | .LD_E_D => [0x5A]
  | .LD_E_E => [0x5B]
  | .LD_E_H => [0x5C]
  | .LD_E_L => [0x5D]
  | .LD_E_mHL => [0x5E]
  | .LD_E_A => [0x5F]
  | .LD_H_B => [0x60]
  | .LD_H_C => [0x61]
  | .LD_H_D => [0x62]
  | .LD_H_E => [0x63]
  | .LD_H_H => [0x64]
  | .LD_H_L => [0x65]
  | .LD_H_mHL => [0x66]
  | .LD_H_A => [0x67]
  | .LD_L_B => [0x68]
  | .LD_L_C => [0x69]
  | .LD_L_D => [0x6A]
  | .LD_L_E => [0x6B]
  | .LD_L_H => [0x6C]
  | .LD_L_L => [0x6D]
  | .LD_L_mHL => [0x6E]
  | .LD_L_A => [0x6F]
  | .LD_mHL_B => [0x70]
  | .LD_mHL_C => [0x71]
  | .LD_mHL_D => [0x72]
  | .LD_mHL_E => [0x73]
  | .LD_mHL_H => [0x74]
  | .LD_mHL_L => [0x75]
  | .HALT => [0x76]
  | .LD_mHL_A => [0x77]
  | .LD_A_B => [0x78]
  | .LD_A_C => [0x79]
  | .LD_A_D => [0x7A]
  | .LD_A_E => [0x7B]
  | .LD_A_H => [0x7C]
  | .LD_A_L => [0x7D]
  | .LD_A_mHL => [0x7E]
  | .LD_A_A => [0x7F]
  | .ADD_A_B => [0x80]
  | .ADD_A_C => [0x81]
  | .ADD_A_D => [0x82]
  | .ADD_A_E => [0x83]
  | .ADD_A_H => [0x84]
  | .ADD_A_L => [0x85]
  | .ADD_A_mHL => [0x86]
  | .ADD_A_A => [0x87]
  | .ADC_A_B => [0x88]
  | .ADC_A_C => [0x89]
  | .ADC_A_D => [0x8A]
  | .ADC_A_E => [0x8B]
  | .ADC_A_H => [0x8C]
  | .ADC_A_L => [0x8D]
  | .ADC_A_mHL => [0x8E]
  | .ADC_A_A => [0x8F]
  | .SUB_A_B => [0x90]
  | .SUB_A_C => [0x91]
  | .SUB_A_D => [0x92]
  | .SUB_A_E => [0x93]
  | .SUB_A_H => [0x94]
  | .SUB_A_L => [0x95]
  | .SUB_A_mHL => [0x96]
  | .SUB_A_A => [0x97]
  | .SBC_A_B => [0x98]
  | .SBC_A_C => [0x99]
  | .SBC_A_D => [0x9A]
  | .SBC_A_E => [0x9B]
  | .SBC_A_H => [0x9C]
  | .SBC_A_L => [0x9D]
  | .SBC_A_mHL => [0x9E]
  | .SBC_A_A => [0x9F]
  | .AND_A_B => [0xA0]
  | .AND_A_C => [0xA1]
  | .AND_A_D => [0xA2]
  | .AND_A_E => [0xA3]
  | .AND_A_H => [0xA4]
  | .AND_A_L => [0xA5]
  | .AND_A_mHL => [0xA6]
  | .AND_A_A => [0xA7]
  | .XOR_A_B => [0xA8]
  | .XOR_A_C => [0xA9]
  | .XOR_A_D => [0xAA]
  | .XOR_A_E => [0xAB]
  | .XOR_A_H => [0xAC]
  | .XOR_A_L => [0xAD]
  | .XOR_A_mHL => [0xAE]
  | .XOR_A_A => [0xAF]
  | .OR_A_B => [0xB0]
  | .OR_A_C => [0xB1]
  | .OR_A_D => [0xB2]
  | .OR_A_E => [0xB3]
  | .OR_A_H => [0xB4]
  | .OR_A_L => [0xB5]
  | .OR_A_mHL => [0xB6]
  | .OR_A_A => [0xB7]
  | .CP_A_B => [0xB8]
  | .CP_A_C => [0xB9]
  | .CP_A_D => [0xBA]
  | .CP_A_E => [0xBB]
  | .CP_A_H => [0xBC]
  | .CP_A_L => [0xBD]
  | .CP_A_mHL => [0xBE]
  | .CP_A_A => [0xBF]
  | .RET_NZ => [0xC0]
  | .POP_BC => [0xC1]
  | .JP_NZ_a16 n => [0xC2, loByte n, hiByte n]
  | .JP_a16 n => [0xC3, loByte n, hiByte n]
  | .CALL_NZ_a16 n => [0xC4, loByte n, hiByte n]
  | .PUSH_BC => [0xC5]
  | .ADD_A_n8 n => [0xC6, n]
  | .RST_0x00 => [0xC7]
  | .RET_Z => [0xC8]
  | .RET => [0xC9]
  | .JP_Z_a16 n => [0xCA, loByte n, hiByte n]
  | .PREFIX n => [0xCB, n]
  | .CALL_Z_a16 n => [0xCC, loByte n, hiByte n]
  | .CALL_a16 n => [0xCD, loByte n, hiByte n]
  | .ADC_A_n8 n => [0xCE, n]
  | .RST_0x08 => [0xCF]
  | .RET_NC => [0xD0]
  | .POP_DE => [0xD1]
  | .JP_NC_a16 n => [0xD2, loByte n, hiByte n]
  | .CALL_NC_a16 n => [0xD4, loByte n, hiByte n]
  | .PUSH_DE => [0xD5]
  | .SUB_A_n8 n => [0xD6, n]
  | .RST_0x10 => [0xD7]
  | .RET_C => [0xD8]
  | .RETI => [0xD9]
  | .JP_C_a16 n => [0xDA, loByte n, hiByte n]
  | .CALL_C_a16 n => [0xDC, loByte n, hiByte n]
  | .SBC_A_n8 n => [0xDE, n]
  | .RST_0x18 => [0xDF]
  | .LDH_ma8_A n => [0xE0, n]
  | .POP_HL => [0xE1]
  | .LDH_mC_A => [0xE2]
  | .PUSH_HL => [0xE5]
  | .AND_A_n8 n => [0xE6, n]
  | .RST_0x20 => [0xE7]
  | .ADD_SP_e8 n => [0xE8, n]
  | .JP_HL => [0xE9]
  | .LD_ma16_A n => [0xEA, loByte n, hiByte n]
  | .XOR_A_n8 n => [0xEE, n]
  | .RST_0x28 => [0xEF]
  | .LDH_A_ma8 n => [0xF0, n]
  | .POP_AF => [0xF1]
  | .LDH_A_mC => [0xF2]
  | .DI => [0xF3]
  | .PUSH_AF => [0xF5]
  | .OR_A_n8 n => [0xF6, n]
  | .RST_0x30 => [0xF7]
  | .LD_HL_SP_e8 n => [0xF8, n]
  | .LD_SP_HL => [0xF9]
  | .LD_A_ma16 n => [0xFA, loByte n, hiByte n]
  | .EI => [0xFB]
  | .CP_A_n8 n => [0xFE, n]
  | .RST_0x38 => [0xFF]
  | .RLC_B => [0xCB, 0x00]
  | .RLC_C => [0xCB, 0x01]
  | .RLC_D => [0xCB, 0x02]
  | .RLC_E => [0xCB, 0x03]
  | .RLC_H => [0xCB, 0x04]
  | .RLC_L => [0xCB, 0x05]
  | .RLC_mHL => [0xCB, 0x06]
  | .RLC_A => [0xCB, 0x07]
  | .RRC_B => [0xCB, 0x08]
  | .RRC_C => [0xCB, 0x09]
  | .RRC_D => [0xCB, 0x0A]
  | .RRC_E => [0xCB, 0x0B]
  | .RRC_H => [0xCB, 0x0C]
  | .RRC_L => [0xCB, 0x0D]
  | .RRC_mHL => [0xCB, 0x0E]
  | .RRC_A => [0xCB, 0x0F]
  | .RL_B => [0xCB, 0x10]
  | .RL_C => [0xCB, 0x11]
  | .RL_D => [0xCB, 0x12]
  | .RL_E => [0xCB, 0x13]
  | .RL_H => [0xCB, 0x14]
  | .RL_L => [0xCB, 0x15]
  | .RL_mHL => [0xCB, 0x16]
  | .RL_A => [0xCB, 0x17]
  | .RR_B => [0xCB, 0x18]
  | .RR_C => [0xCB, 0x19]
  | .RR_D => [0xCB, 0x1A]
  | .RR_E => [0xCB, 0x1B]
  | .RR_H => [0xCB, 0x1C]
  | .RR_L => [0xCB, 0x1D]
  | .RR_mHL => [0xCB, 0x1E]
  | .RR_A => [0xCB, 0x1F]
  | .SLA_B => [0xCB, 0x20]
  | .SLA_C => [0xCB, 0x21]
  | .SLA_D => [0xCB, 0x22]
  | .SLA_E => [0xCB, 0x23]
  | .SLA_H => [0xCB, 0x24]
  | .SLA_L => [0xCB, 0x25]
  | .SLA_mHL => [0xCB, 0x26]
  | .SLA_A => [0xCB, 0x27]
  | .SRA_B => [0xCB, 0x28]
  | .SRA_C => [0xCB, 0x29]
  | .SRA_D => [0xCB, 0x2A]
  | .SRA_E => [0xCB, 0x2B]
  | .SRA_H => [0xCB, 0x2C]
  | .SRA_L => [0xCB, 0x2D]
  | .SRA_mHL => [0xCB, 0x2E]
  | .SRA_A => [0xCB, 0x2F]
  | .SWAP_B => [0xCB, 0x30]
  | .SWAP_C => [0xCB, 0x31]
  | .SWAP_D => [0xCB, 0x32]
  | .SWAP_E => [0xCB, 0x33]
  | .SWAP_H => [0xCB, 0x34]
  | .SWAP_L => [0xCB, 0x35]
  | .SWAP_mHL => [0xCB, 0x36]
  | .SWAP_A => [0xCB, 0x37]
  | .SRL_B => [0xCB, 0x38]
  | .SRL_C => [0xCB, 0x39]
  | .SRL_D => [0xCB, 0x3A]
  | .SRL_E => [0xCB, 0x3B]
  | .SRL_H => [0xCB, 0x3C]
  | .SRL_L => [0xCB, 0x3D]
  | .SRL_mHL => [0xCB, 0x3E]
  | .SRL_A => [0xCB, 0x3F]
  | .BIT_0_B => [0xCB, 0x40]
  | .BIT_0_C => [0xCB, 0x41]
  | .BIT_0_D => [0xCB, 0x42]
  | .BIT_0_E => [0xCB, 0x43]
  | .BIT_0_H => [0xCB, 0x44]
  | .BIT_0_L => [0xCB, 0x45]
  | .BIT_0_mHL => [0xCB, 0x46]
  | .BIT_0_A => [0xCB, 0x47]
  | .BIT_1_B => [0xCB, 0x48]
  | .BIT_1_C => [0xCB, 0x49]
  | .BIT_1_D => [0xCB, 0x4A]
  | .BIT_1_E => [0xCB, 0x4B]
  | .BIT_1_H => [0xCB, 0x4C]
  | .BIT_1_L => [0xCB, 0x4D]
  | .BIT_1_mHL => [0xCB, 0x4E]
  | .BIT_1_A => [0xCB, 0x4F]
  | .BIT_2_B => [0xCB, 0x50]
  | .BIT_2_C => [0xCB, 0x51]
  | .BIT_2_D => [0xCB, 0x52]
  | .BIT_2_E => [0xCB, 0x53]
  | .BIT_2_H => [0xCB, 0x54]
  | .BIT_2_L => [0xCB, 0x55]
  | .BIT_2_mHL => [0xCB, 0x56]
  | .BIT_2_A => [0xCB, 0x57]
  | .BIT_3_B => [0xCB, 0x58]
  | .BIT_3_C => [0xCB, 0x59]
  | .BIT_3_D => [0xCB, 0x5A]
  | .BIT_3_E => [0xCB, 0x5B]
  | .BIT_3_H => [0xCB, 0x5C]
  | .BIT_3_L => [0xCB, 0x5D]
  | .BIT_3_mHL => [0xCB, 0x5E]
  | .BIT_3_A => [0xCB, 0x5F]
  | .BIT_4_B => [0xCB, 0x60]
  | .BIT_4_C => [0xCB, 0x61]
  | .BIT_4_D => [0xCB, 0x62]
  | .BIT_4_E => [0xCB, 0x63]
  | .BIT_4_H => [0xCB, 0x64]
  | .BIT_4_L => [0xCB, 0x65]
  | .BIT_4_mHL => [0xCB, 0x66]
  | .BIT_4_A => [0xCB, 0x67]
  | .BIT_5_B => [0xCB, 0x68]
  | .BIT_5_C => [0xCB, 0x69]
  | .BIT_5_D => [0xCB, 0x6A]
  | .BIT_5_E => [0xCB, 0x6B]
  | .BIT_5_H => [0xCB, 0x6C]
  | .BIT_5_L => [0xCB, 0x6D]
  | .BIT_5_mHL => [0xCB, 0x6E]
  | .BIT_5_A => [0xCB, 0x6F]
  | .BIT_6_B => [0xCB, 0x70]
  | .BIT_6_C => [0xCB, 0x71]
  | .BIT_6_D => [0xCB, 0x72]
  | .BIT_6_E => [0xCB, 0x73]
  | .BIT_6_H => [0xCB, 0x74]
  | .BIT_6_L => [0xCB, 0x75]
  | .BIT_6_mHL => [0xCB, 0x76]
  | .BIT_6_A => [0xCB, 0x77]
  | .BIT_7_B => [0xCB, 0x78]
  | .BIT_7_C => [0xCB, 0x79]
  | .BIT_7_D => [0xCB, 0x7A]
  | .BIT_7_E => [0xCB, 0x7B]
  | .BIT_7_H => [0xCB, 0x7C]
  | .BIT_7_L => [0xCB, 0x7D]
  | .BIT_7_mHL => [0xCB, 0x7E]
  | .BIT_7_A => [0xCB, 0x7F]
  | .RES_0_B => [0xCB, 0x80]
  | .RES_0_C => [0xCB, 0x81]
  | .RES_0_D => [0xCB, 0x82]
  | .RES_0_E => [0xCB, 0x83]
  | .RES_0_H => [0xCB, 0x84]
  | .RES_0_L => [0xCB, 0x85]
  | .RES_0_mHL => [0xCB, 0x86]
  | .RES_0_A => [0xCB, 0x87]
  | .RES_1_B => [0xCB, 0x88]
  | .RES_1_C => [0xCB, 0x89]
  | .RES_1_D => [0xCB, 0x8A]
  | .RES_1_E => [0xCB, 0x8B]
  | .RES_1_H => [0xCB, 0x8C]
  | .RES_1_L => [0xCB, 0x8D]
  | .RES_1_mHL => [0xCB, 0x8E]
  | .RES_1_A => [0xCB, 0x8F]
  | .RES_2_B => [0xCB, 0x90]
  | .RES_2_C => [0xCB, 0x91]
  | .RES_2_D => [0xCB, 0x92]
  | .RES_2_E => [0xCB, 0x93]
  | .RES_2_H => [0xCB, 0x94]
  | .RES_2_L => [0xCB, 0x95]
  | .RES_2_mHL => [0xCB, 0x96]
  | .RES_2_A => [0xCB, 0x97]
  | .RES_3_B => [0xCB, 0x98]
  | .RES_3_C => [0xCB, 0x99]
  | .RES_3_D => [0xCB, 0x9A]
  | .RES_3_E => [0xCB, 0x9B]
  | .RES_3_H => [0xCB, 0x9C]
  | .RES_3_L => [0xCB, 0x9D]
  | .RES_3_mHL => [0xCB, 0x9E]
  | .RES_3_A => [0xCB, 0x9F]
  | .RES_4_B => [0xCB, 0xA0]
  | .RES_4_C => [0xCB, 0xA1]
  | .RES_4_D => [0xCB, 0xA2]
  | .RES_4_E => [0xCB, 0xA3]
  | .RES_4_H => [0xCB, 0xA4]
  | .RES_4_L => [0xCB, 0xA5]
  | .RES_4_mHL => [0xCB, 0xA6]
  | .RES_4_A => [0xCB, 0xA7]
  | .RES_5_B => [0xCB, 0xA8]
  | .RES_5_C => [0xCB, 0xA9]
  | .RES_5_D => [0xCB, 0xAA]
  | .RES_5_E => [0xCB, 0xAB]
  | .RES_5_H => [0xCB, 0xAC]
  | .RES_5_L => [0xCB, 0xAD]
  | .RES_5_mHL => [0xCB, 0xAE]
  | .RES_5_A => [0xCB, 0xAF]
  | .RES_6_B => [0xCB, 0xB0]
  | .RES_6_C => [0xCB, 0xB1]
  | .RES_6_D => [0xCB, 0xB2]
  | .RES_6_E => [0xCB, 0xB3]
  | .RES_6_H => [0xCB, 0xB4]
  | .RES_6_L => [0xCB, 0xB5]
  | .RES_6_mHL => [0xCB, 0xB6]
  | .RES_6_A => [0xCB, 0xB7]
  | .RES_7_B => [0xCB, 0xB8]
  | .RES_7_C => [0xCB, 0xB9]
  | .RES_7_D => [0xCB, 0xBA]
  | .RES_7_E => [0xCB, 0xBB]
  | .RES_7_H => [0xCB, 0xBC]
  | .RES_7_L => [0xCB, 0xBD]
  | .RES_7_mHL => [0xCB, 0xBE]
  | .RES_7_A => [0xCB, 0xBF]
  | .SET_0_B => [0xCB, 0xC0]
  | .SET_0_C => [0xCB, 0xC1]
  | .SET_0_D => [0xCB, 0xC2]
  | .SET_0_E => [0xCB, 0xC3]
  | .SET_0_H => [0xCB, 0xC4]
  | .SET_0_L => [0xCB, 0xC5]
  | .SET_0_mHL => [0xCB, 0xC6]
  | .SET_0_A => [0xCB, 0xC7]
  | .SET_1_B => [0xCB, 0xC8]
  | .SET_1_C => [0xCB, 0xC9]
  | .SET_1_D => [0xCB, 0xCA]
  | .SET_1_E => [0xCB, 0xCB]
  | .SET_1_H => [0xCB, 0xCC]
  | .SET_1_L => [0xCB, 0xCD]
  | .SET_1_mHL => [0xCB, 0xCE]
  | .SET_1_A => [0xCB, 0xCF]
  | .SET_2_B => [0xCB, 0xD0]
  | .SET_2_C => [0xCB, 0xD1]
  | .SET_2_D => [0xCB, 0xD2]
  | .SET_2_E => [0xCB, 0xD3]
  | .SET_2_H => [0xCB, 0xD4]
  | .SET_2_L => [0xCB, 0xD5]
  | .SET_2_mHL => [0xCB, 0xD6]
  | .SET_2_A => [0xCB, 0xD7]
  | .SET_3_B => [0xCB, 0xD8]
  | .SET_3_C => [0xCB, 0xD9]
  | .SET_3_D => [0xCB, 0xDA]
  | .SET_3_E => [0xCB, 0xDB]
  | .SET_3_H => [0xCB, 0xDC]
  | .SET_3_L => [0xCB, 0xDD]
  | .SET_3_mHL => [0xCB, 0xDE]
  | .SET_3_A => [0xCB, 0xDF]
  | .SET_4_B => [0xCB, 0xE0]
  | .SET_4_C => [0xCB, 0xE1]
  | .SET_4_D => [0xCB, 0xE2]
  | .SET_4_E => [0xCB, 0xE3]
  | .SET_4_H => [0xCB, 0xE4]
  | .SET_4_L => [0xCB, 0xE5]
  | .SET_4_mHL => [0xCB, 0xE6]
  | .SET_4_A => [0xCB, 0xE7]
  | .SET_5_B => [0xCB, 0xE8]
  | .SET_5_C => [0xCB, 0xE9]
  | .SET_5_D => [0xCB, 0xEA]
  | .SET_5_E => [0xCB, 0xEB]
  | .SET_5_H => [0xCB, 0xEC]
  | .SET_5_L => [0xCB, 0xED]
  | .SET_5_mHL => [0xCB, 0xEE]
  | .SET_5_A => [0xCB, 0xEF]
  | .SET_6_B => [0xCB, 0xF0]
  | .SET_6_C => [0xCB, 0xF1]
  | .SET_6_D => [0xCB, 0xF2]
  | .SET_6_E => [0xCB, 0xF3]
  | .SET_6_H => [0xCB, 0xF4]
  | .SET_6_L => [0xCB, 0xF5]
  | .SET_6_mHL => [0xCB, 0xF6]
  | .SET_6_A => [0xCB, 0xF7]
  | .SET_7_B => [0xCB, 0xF8]
  | .SET_7_C => [0xCB, 0xF9]
  | .SET_7_D => [0xCB, 0xFA]
  | .SET_7_E => [0xCB, 0xFB]
  | .SET_7_H => [0xCB, 0xFC]
  | .SET_7_L => [0xCB, 0xFD]
  | .SET_7_mHL => [0xCB, 0xFE]
  | .SET_7_A => [0xCB, 0xFF]

end Sys2Proof
end

