-- ==== Sys2Proof/Config.lean ====
section
/-! DEFINITION. The parameters the spec leaves open and lets a model take as arguments (R10), as plain
data. A state carries one `Params` value; no step reads anything else that an implementation fixes and
no step changes it. `BUS`, the fifth parameter of R10, is the bus part of the state (Machine/State.lean):
the answers a bus agent gives are inputs held there. The spec leaves no instruction result undefined,
so there is no opaque free value. -/

namespace Sys2Proof.Config

/-- R10, D7: `HALT_MODE`. -/
inductive HaltMode where
  | terminal
  | hardware
  deriving DecidableEq, Repr

/-- R10, D11: `CYCLE_UNIT`. -/
inductive CycleUnit where
  | T
  | M
  deriving DecidableEq, Repr

/-- R52: the values drawn for the registers by the `draw` reset profile. The low nibble of `f` is
cleared when the draw is used. -/
structure Draw where
  a : Byte
  f : Byte
  b : Byte
  c : Byte
  d : Byte
  e : Byte
  h : Byte
  l : Byte
  sp : Word
  deriving DecidableEq, Repr

/-- R10, D5: `RESET_PROFILE`. A free draw is an argument of the profile, so a claim about every profile
is a claim about every draw. -/
inductive ResetProfile where
  | zero
  | dmgPostBoot
  | draw (regs : Draw)
  deriving DecidableEq, Repr

/-- The name of one row of the opcode table (R152): its table, and its index in that table (the opcode
byte, or the byte after 0xCB). -/
structure Row where
  secondary : Bool
  byte : Byte
  deriving DecidableEq, Repr

/-- R10, R160, D1: `ADMITTED_ROWS`, a set of rows. -/
inductive AdmittedRows where
  | every
  | only (rows : List Row)
  deriving DecidableEq, Repr

/-- R10: the named parameters of the core. -/
structure Params where
  haltMode : HaltMode
  cycleUnit : CycleUnit
  admitted : AdmittedRows
  profile : ResetProfile
  deriving DecidableEq, Repr

/-- R10: the default of every parameter. -/
def Params.default : Params :=
  { haltMode := .terminal, cycleUnit := .T, admitted := .every, profile := .zero }

/-- D1: the 33 rows whose semantics the source gives (`semantics_src = source`): ADD, ADC and AND in
their register, (HL) and immediate forms, ADD HL,rr, ADD SP,e8 and HALT. -/
def sourceRows : List Row :=
  ([0x80, 0x81, 0x82, 0x83, 0x84, 0x85, 0x86, 0x87, 0xC6] ++
    [0x88, 0x89, 0x8A, 0x8B, 0x8C, 0x8D, 0x8E, 0x8F, 0xCE] ++
    [0xA0, 0xA1, 0xA2, 0xA3, 0xA4, 0xA5, 0xA6, 0xA7, 0xE6] ++
    [0x09, 0x19, 0x29, 0x39, 0xE8, 0x76]).map fun b => { secondary := false, byte := b }

end Sys2Proof.Config
end

