-- ==== Sys2Proof/Machine/State.lean ====
section
/-! DEFINITION. The state of the machine as plain data: the complete core state tuple of R46 (`Cpu`), the
bus the core reaches memory through (R80, R81), the interrupt requests the controller presents (R610),
the parameters of R10, and what the last step returned to the driver (R150). -/

namespace Sys2Proof.Machine

open Sys2Proof.Config

/-- R45, R601: the record of an UnimplementedOpcode fault. -/
structure FaultRecord where
  addr : Word
  opcode : Byte
  prefixed : Bool
  opcode2 : Byte
  deriving DecidableEq, Repr

/-- R43: the run state `run`. R45: while the core is Faulted it holds a fault record, and only then; so
the record stands inside the Faulted state and `fault` is read by `Cpu.fault`. -/
inductive RunState where
  | running
  | halted
  | faulted (rec : FaultRecord)
  deriving DecidableEq, Repr

/-- R39: the four flags as an instruction's flag function returns them. -/
structure Flags where
  z : Bool
  n : Bool
  h : Bool
  c : Bool
  deriving DecidableEq, Repr

/-- R46: the complete core state. The pairs BC, DE, HL and AF are views, not stored (R30). -/
structure Cpu where
  a : Byte
  f : Byte
  b : Byte
  c : Byte
  d : Byte
  e : Byte
  h : Byte
  l : Byte
  sp : Word
  pc : Word
  ime : Bool
  imePending : Bool
  haltBug : Bool
  run : RunState
  cycles : Nat
  deriving DecidableEq, Repr

/-- R46: the `fault` element of the core state. -/
def Cpu.fault (u : Cpu) : Option FaultRecord :=
  match u.run with
  | .running => none
  | .halted => none
  | .faulted rec => some rec

/-- R81: one access of the core on the bus, with the byte it moved. -/
inductive Access where
  | read (addr : Word) (value : Byte)
  | write (addr : Word) (value : Byte)
  deriving DecidableEq, Repr

/-- Memory as a list of (address, byte) pairs in canonical form (`Memory.Wf`, Machine/Ops.lean). -/
abbrev Memory := List Host.Cell

/-- R80, R81, D12: the bus, an agent outside the core. `mem` is what the core has written over the
initial contents, address by address. `answers` are the bytes a bus agent will give to the next reads,
an input of the machine: each read takes the first; with none left the bus is the plain RAM of D12 and
a read returns `mem`'s byte. `log` records the accesses of the current step in program order. -/
structure Bus where
  mem : Memory
  answers : List Byte
  log : List Access
  deriving DecidableEq, Repr

/-- R150: what a step returns to the driver. `none` before the first step. -/
inductive Report where
  | none
  | executed (n : Nat)
  | interrupt (n : Nat) (k : Nat)
  | halted (n : Nat)
  | fault (rec : FaultRecord)
  deriving DecidableEq, Repr

/-- The whole machine: the core, its bus, its request input, its parameters and its last report. -/
structure State where
  /-- R46: the core state; also the snapshot of R47. -/
  cpu : Cpu
  /-- R80, R81: the memory bus. -/
  bus : Bus
  /-- R610: the interrupt requests the external controller presents, one value for each coming step,
  the next step's first. No value left means no request. An input of the machine. -/
  irqs : List (BitVec 5)
  /-- R10: the parameters. -/
  params : Params
  /-- R150: the last step's outcome for the driver. -/
  out : Report
  deriving DecidableEq, Repr

/-- Why the machine stops with a fault signal. -/
inductive Fault where
  /-- R600, R158: raised by a step that starts in Faulted, with the record held there. The step changes
  nothing. Safe: the spec gives a Faulted core no further progress. -/
  | unimplementedOpcode (rec : FaultRecord)
  deriving DecidableEq, Repr

/-- Why a step has no meaning. -/
inductive Refusal where
  /-- Raised by an arm of `exec` whose instruction has no meaning yet. Safe: nothing is claimed of such
  a step. No arm raises it now. -/
  | notModelled (mnemonic : String)
  deriving DecidableEq, Repr

/-- The answer of one step of this machine. -/
abbrev Outcome := Host.Outcome State Fault Refusal

/-- R50: the core state under `RESET_PROFILE = zero`. -/
def Cpu.zero : Cpu :=
  { a := 0x00, f := 0x00, b := 0x00, c := 0x00, d := 0x00, e := 0x00, h := 0x00, l := 0x00
    sp := 0x0000, pc := 0x0000, ime := false, imePending := false, haltBug := false
    run := .running, cycles := 0 }

/-- R50, R700: the machine right after construction: the `zero` profile, every parameter at its default,
memory with nothing listed, no scripted bus answer and no interrupt request. -/
def State.reset : State :=
  { cpu := Cpu.zero
    bus := { mem := [], answers := [], log := [] }
    irqs := []
    params := Params.default
    out := .none }

end Sys2Proof.Machine
end

