-- ==== Sys2Proof/Machine/Flags.lean ====
section
/-! DEFINITION. The flag unit and the ALU as pure, total functions (R205): each returns its result and the
four flags. Exact integers first, then the result modulo the width (R12, R250). -/

namespace Sys2Proof.Machine

/-! ### 8-bit arithmetic and logic -/

/-- R200: `add8(a, b, cin)`. -/
def add8 (a b : Byte) (cin : Bool) : Byte × Flags :=
  let r := a.toNat + b.toNat + cin.toNat
  let res : Byte := BitVec.ofNat 8 r
  (res, { z := res == 0, n := false
          h := decide ((a &&& 0xF).toNat + (b &&& 0xF).toNat + cin.toNat > 0xF)
          c := decide (r > 0xFF) })

/-- R201: `sub8(a, b, cin)`. -/
def sub8 (a b : Byte) (cin : Bool) : Byte × Flags :=
  let r : Int := (a.toNat : Int) - (b.toNat : Int) - (cin.toNat : Int)
  let res : Byte := BitVec.ofInt 8 r
  (res, { z := res == 0, n := true
          h := decide ((a &&& 0xF).toNat < (b &&& 0xF).toNat + cin.toNat)
          c := decide (a.toNat < b.toNat + cin.toNat) })

/-- R202: `and8(a, b)`. -/
def and8 (a b : Byte) : Byte × Flags :=
  (a &&& b, { z := (a &&& b) == 0, n := false, h := true, c := false })

/-- R203: `xor8(a, b)`. -/
def xor8 (a b : Byte) : Byte × Flags :=
  (a ^^^ b, { z := (a ^^^ b) == 0, n := false, h := false, c := false })

/-- R203: `or8(a, b)`. -/
def or8 (a b : Byte) : Byte × Flags :=
  (a ||| b, { z := (a ||| b) == 0, n := false, h := false, c := false })

/-- R127, R210 to R233: the result and flags of each ALU operation; ADC and SBC take the prior carry. -/
def alu8 (op : Alu8) (a v : Byte) (carry : Bool) : Byte × Flags :=
  match op with
  | .add => add8 a v false
  | .adc => add8 a v carry
  | .sub => sub8 a v false
  | .sbc => sub8 a v carry
  | .and => and8 a v
  | .xor => xor8 a v
  | .or => or8 a v
  | .cp => sub8 a v false

/-- R234, R235: increment; C is unchanged. -/
def inc8 (v : Byte) (f : Flags) : Byte × Flags :=
  (v + 1, { f with z := (v + 1) == 0, n := false, h := (v &&& 0xF) == 0xF })

/-- R236, R237: decrement; C is unchanged. -/
def dec8 (v : Byte) (f : Flags) : Byte × Flags :=
  (v - 1, { f with z := (v - 1) == 0, n := true, h := (v &&& 0xF) == 0x0 })

/-- R238: decimal adjust, for every A and every flag combination (93_implementation_defined.md I11). -/
def daa8 (a : Byte) (f : Flags) : Byte × Flags :=
  if f.n = false then
    let high := f.c || decide (a.toNat > 0x99)
    let a1 := if high then a + 0x60 else a
    let a2 := if f.h || decide ((a1 &&& 0x0F).toNat > 0x09) then a1 + 0x06 else a1
    (a2, { f with z := a2 == 0, h := false, c := high })
  else
    let a1 := if f.c then a - 0x60 else a
    let a2 := if f.h then a1 - 0x06 else a1
    (a2, { f with z := a2 == 0, h := false })

/-! ### 16-bit arithmetic -/

/-- R260: `add16hl(hl, v)`; the prior Z passes through. -/
def add16hl (hl v : Word) (z : Bool) : Word × Flags :=
  let r := hl.toNat + v.toNat
  (BitVec.ofNat 16 r,
    { z := z, n := false
      h := decide ((hl &&& 0x0FFF).toNat + (v &&& 0x0FFF).toNat > 0x0FFF)
      c := decide (r > 0xFFFF) })

/-- R261: `addspe(sp, e8)`: the value adds the signed displacement, the flags its unsigned byte. -/
def addspe (sp : Word) (e : Byte) : Word × Flags :=
  (sp + e.signExtend 16,
    { z := false, n := false
      h := decide ((sp &&& 0xF).toNat + (e &&& 0xF).toNat > 0xF)
      c := decide ((sp &&& 0xFF).toNat + e.toNat > 0xFF) })

/-! ### Rotates and shifts -/

/-- R310 to R325: the result byte of each operation. -/
def rotResult (op : Rot8) (v : Byte) (carry : Bool) : Byte :=
  match op with
  | .rlc => v.extractLsb' 0 7 ++ v.extractLsb' 7 1
  | .rrc => v.extractLsb' 0 1 ++ v.extractLsb' 1 7
  | .rl => v.extractLsb' 0 7 ++ BitVec.ofBool carry
  | .rr => BitVec.ofBool carry ++ v.extractLsb' 1 7
  | .sla => v.extractLsb' 0 7 ++ 0#1
  | .sra => v.extractLsb' 7 1 ++ v.extractLsb' 1 7
  | .swap => v.extractLsb' 0 4 ++ v.extractLsb' 4 4
  | .srl => 0#1 ++ v.extractLsb' 1 7

/-- R310 to R325: the carry each operation leaves: the bit that left the byte; SWAP clears it. -/
def rotCarry (op : Rot8) (v : Byte) : Bool :=
  match op with
  | .rlc => v.getLsbD 7
  | .rrc => v.getLsbD 0
  | .rl => v.getLsbD 7
  | .rr => v.getLsbD 0
  | .sla => v.getLsbD 7
  | .sra => v.getLsbD 0
  | .swap => false
  | .srl => v.getLsbD 0

/-- R310 to R325: a rotate or shift, with its flags. -/
def rot8 (op : Rot8) (v : Byte) (f : Flags) : Byte × Flags :=
  let res := rotResult op v f.c
  (res, { z := res == 0, n := false, h := false, c := rotCarry op v })

end Sys2Proof.Machine
end

