-- ==== Sys2Proof/Machine/Operands.lean ====
section
/-! DEFINITION. The register file and its views (10_state.md section 1): reading and writing the 8-bit
registers by the r8 field, the pair views, and the addresses and conditions an instruction's fields
select. Nothing here touches the bus. -/

namespace Sys2Proof.Machine

/-! ### 8-bit registers -/

/-- R13, R31: `x[r]`. -/
def State.reg (s : State) (r : Reg8) : Byte :=
  match r with
  | .b => s.cpu.b
  | .c => s.cpu.c
  | .d => s.cpu.d
  | .e => s.cpu.e
  | .h => s.cpu.h
  | .l => s.cpu.l
  | .a => s.cpu.a

/-- R13, R31: `x[r] <- v`. -/
def State.setReg (s : State) (r : Reg8) (v : Byte) : State :=
  match r with
  | .b => { s with cpu := { s.cpu with b := v } }
  | .c => { s with cpu := { s.cpu with c := v } }
  | .d => { s with cpu := { s.cpu with d := v } }
  | .e => { s with cpu := { s.cpu with e := v } }
  | .h => { s with cpu := { s.cpu with h := v } }
  | .l => { s with cpu := { s.cpu with l := v } }
  | .a => { s with cpu := { s.cpu with a := v } }

/-! ### 16-bit registers and pair views -/

/-- R37: `pc`. -/
def State.pc (s : State) : Word := s.cpu.pc

/-- R37: `pc <- v`. -/
def State.setPc (s : State) (v : Word) : State :=
  { s with cpu := { s.cpu with pc := v } }

/-- R33: `x[HL]`. -/
def State.hl (s : State) : Word := joinBytes s.cpu.h s.cpu.l

/-- R33, R38: `x[rr]` for the r16 field. -/
def State.r16 (s : State) (rr : R16) : Word :=
  match rr with
  | .bc => joinBytes s.cpu.b s.cpu.c
  | .de => joinBytes s.cpu.d s.cpu.e
  | .hl => s.hl
  | .sp => s.cpu.sp

/-- R34, R38: `x[rr] <- v` for the r16 field: a pair write changes exactly its two registers. -/
def State.setR16 (s : State) (rr : R16) (v : Word) : State :=
  match rr with
  | .bc => { s with cpu := { s.cpu with b := hiByte v, c := loByte v } }
  | .de => { s with cpu := { s.cpu with d := hiByte v, e := loByte v } }
  | .hl => { s with cpu := { s.cpu with h := hiByte v, l := loByte v } }
  | .sp => { s with cpu := { s.cpu with sp := v } }

/-- R124, R36: `x[rr]` for the r16stk field, AF among them. -/
def State.r16Stk (s : State) (rr : R16Stk) : Word :=
  match rr with
  | .bc => s.r16 .bc
  | .de => s.r16 .de
  | .hl => s.r16 .hl
  | .af => joinBytes s.cpu.a s.cpu.f

/-- R423, R424, R36: `x[rr] <- v` for the r16stk field; writing AF clears the low nibble of F. -/
def State.setR16Stk (s : State) (rr : R16Stk) (v : Word) : State :=
  match rr with
  | .bc => s.setR16 .bc v
  | .de => s.setR16 .de v
  | .hl => s.setR16 .hl v
  | .af => { s with cpu := { s.cpu with a := hiByte v, f := (loByte v).extractLsb' 4 4 ++ 0#4 } }

/-! ### Addresses -/

/-- R125: the address an r16mem field selects. -/
def State.memAddr (s : State) (m : R16Mem) : Word :=
  match m with
  | .bc => s.r16 .bc
  | .de => s.r16 .de
  | .hli => s.hl
  | .hld => s.hl

/-- R125, R415 to R418: HL after an r16mem access; wraps (R86). -/
def State.stepHL (s : State) (m : R16Mem) : State :=
  match m with
  | .bc => s
  | .de => s
  | .hli => s.setR16 .hl (s.hl + 1)
  | .hld => s.setR16 .hl (s.hl - 1)

/-- R130, R411 to R414: the high-page address `0xFF00 + zext_16(n)`. -/
def highPage (n : Byte) : Word := 0xFF00 + n.setWidth 16

/-! ### Flags and conditions -/

/-- R32: `fZ = F[7]`. -/
def State.fZ (s : State) : Bool := s.cpu.f.getLsbD 7

/-- R32: `fN = F[6]`. -/
def State.fN (s : State) : Bool := s.cpu.f.getLsbD 6

/-- R32: `fH = F[5]`. -/
def State.fH (s : State) : Bool := s.cpu.f.getLsbD 5

/-- R32: `fC = F[4]`. -/
def State.fC (s : State) : Bool := s.cpu.f.getLsbD 4

/-- R32: the four flags together. -/
def State.flags (s : State) : Flags := { z := s.fZ, n := s.fN, h := s.fH, c := s.fC }

/-- R205: `fZ, fN, fH, fC <- f`: each flag goes to its bit and the low nibble of F stays. An instruction
that leaves a flag unchanged writes back the value it read. -/
def State.setFlags (s : State) (f : Flags) : State :=
  { s with cpu := { s.cpu with
      f := BitVec.ofBool f.z ++ BitVec.ofBool f.n ++ BitVec.ofBool f.h ++ BitVec.ofBool f.c ++
        s.cpu.f.extractLsb' 0 4 } }

/-- R500: `cond(cc)`. -/
def State.holds (s : State) (cc : Cond) : Bool :=
  match cc with
  | .nz => !s.fZ
  | .z => s.fZ
  | .nc => !s.fC
  | .c => s.fC

/-! ### Interrupt and run state -/

/-- R610: the requests presented for this step; none once the input is used up. -/
def State.irq (s : State) : BitVec 5 := s.irqs.headD 0

/-- R40, R41: IME and the EI delay latch. -/
def State.setIme (s : State) (ime imePending : Bool) : State :=
  { s with cpu := { s.cpu with ime := ime, imePending := imePending } }

/-- R42: the HALT-bug latch. -/
def State.setHaltBug (s : State) (b : Bool) : State :=
  { s with cpu := { s.cpu with haltBug := b } }

/-- R43: the run state. -/
def State.setRun (s : State) (r : RunState) : State :=
  { s with cpu := { s.cpu with run := r } }

/-- R47: the read-only snapshot. -/
def State.snapshot (s : State) : Cpu := s.cpu

end Sys2Proof.Machine
end

