-- ==== Sys2Proof/Machine/Ops.lean ====
section
/-! DEFINITION. The named operations over memory, the bus, the stack and the cycle count, and the events
outside an instruction: taking an interrupt, entering Faulted, the reset operation. -/

namespace Sys2Proof.Machine

open Sys2Proof.Config

/-! ### Memory contents -/

/-- What an address that memory does not list reads as (95_test_vectors.md: "Every byte not listed is
0x00"). DESIGN CHOICE, assumption 2. -/
def Memory.unlisted : Byte := 0x00

/-- The canonical form: addresses strictly rising and inside the address space (R83), no entry equal to
what an unlisted address reads as. -/
abbrev Memory.Wf (m : Memory) : Prop :=
  m.Pairwise (fun x y => x.1 < y.1) ∧ ∀ c ∈ m, c.1 < 0x10000 ∧ c.2 ≠ Memory.unlisted

/-- The byte memory holds at an address. -/
def Memory.read (m : Memory) (a : Nat) : Byte :=
  match m with
  | [] => Memory.unlisted
  | (k, v) :: t => if k = a then v else Memory.read t a

/-- The cell for `v` at `a` in front of `t`, or `t` alone where `v` is what an unlisted address reads as. -/
def Memory.cons (a : Nat) (v : Byte) (t : Memory) : Memory :=
  if v = Memory.unlisted then t else (a, v) :: t

/-- Memory after a byte is written; keeps the canonical form. -/
def Memory.write (m : Memory) (a : Nat) (v : Byte) : Memory :=
  match m with
  | [] => Memory.cons a v []
  | (k, w) :: t =>
    if a < k then Memory.cons a v ((k, w) :: t)
    else if a = k then Memory.cons a v t
    else (k, w) :: Memory.write t a v

/-! ### The bus -/

/-- R80, R81: the byte the bus gives to a read of `a` now. -/
def Bus.answer (u : Bus) (a : Word) : Byte :=
  match u.answers with
  | [] => Memory.read u.mem a.toNat
  | v :: _ => v

/-- R14, R81: the bus after one `read_byte(a)`: the answer is used up and the access recorded. -/
def Bus.afterRead (u : Bus) (a : Word) : Bus :=
  { u with answers := u.answers.tail, log := u.log ++ [.read a (u.answer a)] }

/-- R14, R80: the bus after one `write_byte(a, v)`. -/
def Bus.afterWrite (u : Bus) (a : Word) (v : Byte) : Bus :=
  { u with mem := Memory.write u.mem a.toNat v, log := u.log ++ [.write a v] }

/-- R14: `MemRead(a, 1)`, one bus read. -/
def State.memRead (s : State) (a : Word) : Byte × State :=
  (s.bus.answer a, { s with bus := s.bus.afterRead a })

/-- R14: `MemWrite(a, 1, v)`, one bus write. -/
def State.memWrite (s : State) (a : Word) (v : Byte) : State :=
  { s with bus := s.bus.afterWrite a v }

/-! ### Fetch primitives -/

/-- R140: `fetch8()`. -/
def State.fetch8 (s : State) : Byte × State :=
  let r := s.memRead s.pc
  (r.1, r.2.setPc (s.pc + 1))

/-- R151: the opcode fetch of a step: with the HALT bug pending, pc stays and the latch clears. -/
def State.fetchOpcode (s : State) : Byte × State :=
  let r := s.memRead s.pc
  (r.1, if s.cpu.haltBug then r.2.setHaltBug false else r.2.setPc (s.pc + 1))

/-- R154: the `n` bytes after the opcode, in instruction-stream order. -/
def State.fetchBytes (s : State) (n : Nat) : List Byte × State :=
  match n with
  | 0 => ([], s)
  | n + 1 =>
    let r := s.fetch8
    let q := State.fetchBytes r.2 n
    (r.1 :: q.1, q.2)

/-! ### r8 operands -/

/-- R204, R305: an r8 operand: a register with no bus access, or the byte at HL with one bus read. -/
def State.readOpnd (s : State) (o : Opnd8) : Byte × State :=
  match o with
  | .reg r => (s.reg r, s)
  | .hl => s.memRead s.hl

/-- R305: writing an r8 operand: a register, or one bus write at HL. -/
def State.writeOpnd (s : State) (o : Opnd8) (v : Byte) : State :=
  match o with
  | .reg r => s.setReg r v
  | .hl => s.memWrite s.hl v

/-- R234 to R237, R310 to R325: an operand is read once, a function of its value and the flags gives the
new value and the flags, and the value is written back. -/
def modifyOpnd (f : Byte → Flags → Byte × Flags) (o : Opnd8) (s : State) : State :=
  let r := s.readOpnd o
  let q := f r.1 s.flags
  (r.2.writeOpnd o q.1).setFlags q.2

/-! ### Stack -/

/-- R430: `push16(v)`: high byte first, at the higher address. -/
def State.push16 (s : State) (v : Word) : State :=
  let s1 := s.setR16 .sp (s.r16 .sp - 1)
  let s2 := s1.memWrite (s1.r16 .sp) (hiByte v)
  let s3 := s2.setR16 .sp (s2.r16 .sp - 1)
  s3.memWrite (s3.r16 .sp) (loByte v)

/-- R431: `pop16()`: low byte first, at the lower address. -/
def State.pop16 (s : State) : Word × State :=
  let r := s.memRead (s.r16 .sp)
  let s1 := r.2.setR16 .sp (s.r16 .sp + 1)
  let q := s1.memRead (s1.r16 .sp)
  (joinBytes q.1 r.1, q.2.setR16 .sp (s1.r16 .sp + 1))

/-- R423, R424: a pop into an r16stk pair. -/
def State.popR16 (s : State) (rr : R16Stk) : State :=
  let r := s.pop16
  r.2.setR16Stk rr r.1

/-! ### Cycles and the driver's report -/

/-- R730, D11: a T-cycle figure in the unit `CYCLE_UNIT`. -/
def inUnit (u : CycleUnit) (n : Nat) : Nat :=
  match u with
  | .T => n
  | .M => n / 4

/-- R44: `cycles <- cycles + n`. -/
def State.addCycles (s : State) (n : Nat) : State :=
  { s with cpu := { s.cpu with cycles := s.cpu.cycles + n } }

/-- R150: what the step returns. -/
def State.report (s : State) (r : Report) : State :=
  { s with out := r }

/-- R157: the end of an instruction that costs `n` T-cycles: the cost is added and `Executed` returned. -/
def State.charge (s : State) (n : Nat) : State :=
  (s.addCycles (inUnit s.params.cycleUnit n)).report (.executed (inUnit s.params.cycleUnit n))

/-- R602: an instruction completes. -/
def done (n : Nat) (s : State) : Outcome := .next (s.charge n)

/-! ### Interrupts -/

/-- R611: `min { i | irq[i] = 1 }`, for a nonzero request. -/
def lowestRequest (irq : BitVec 5) : Nat :=
  if irq.getLsbD 0 then 0
  else if irq.getLsbD 1 then 1
  else if irq.getLsbD 2 then 2
  else if irq.getLsbD 3 then 3
  else 4

/-- R612: whether a Running step takes an interrupt. -/
def State.takesInterrupt (s : State) : Bool := s.cpu.ime && s.irq != 0

/-- R613: interrupt entry, the core's one exception entry: IME and its latch clear, pc is pushed, pc goes
to the vector of the lowest request, and the acknowledge is reported (R614). For SP = 0 or 1 see
assumption 13. -/
def State.interruptEntry (s : State) : State :=
  let k := lowestRequest s.irq
  let n := inUnit s.params.cycleUnit 20
  let s1 := (s.setIme false false).push16 s.pc
  ((s1.setPc (0x0040 + (BitVec.ofNat 16 k <<< 3))).addCycles n).report (.interrupt n k)

/-- R510: return from an interrupt handler: pc is popped and IME set at once. -/
def returnFromInterrupt (s : State) : State :=
  let r := s.pop16
  (r.2.setPc r.1).setIme true false

/-- R156: the EI promotion at the end of an instruction, due if the latch was set at the step's start
and still is. -/
def State.promoteIme (s : State) (promote : Bool) : State :=
  if promote && s.cpu.imePending then s.setIme true false else s

/-! ### Faults -/

/-- R153, R600: the step that meets an unimplemented opcode: the core state of the step's start `u`
returns, only `run` and `fault` change, and the bus accesses made stay. -/
def State.enterFaulted (s : State) (u : Cpu) (rec : FaultRecord) : State :=
  ({ s with cpu := { u with run := .faulted rec } }).report (.fault rec)

/-! ### Admitted rows -/

/-- R160: whether a row is in `ADMITTED_ROWS`. -/
def admits (p : Params) (r : Row) : Bool :=
  match p.admitted with
  | .every => true
  | .only rows => rows.contains r

/-! ### Reset -/

/-- R50, R51, R52: the core state a reset profile gives. -/
def resetCpu (p : ResetProfile) : Cpu :=
  match p with
  | .zero => Cpu.zero
  | .dmgPostBoot =>
    { Cpu.zero with
      a := 0x01, f := 0xB0, b := 0x00, c := 0x13, d := 0x00, e := 0xD8, h := 0x01, l := 0x4D
      sp := 0xFFFE, pc := 0x0100 }
  | .draw r =>
    { Cpu.zero with
      a := r.a, f := r.f &&& 0xF0, b := r.b, c := r.c, d := r.d, e := r.e, h := r.h, l := r.l
      sp := r.sp }

/-- R700: the driver's `reset()`: the core state of the selected profile, in any run state, with no bus
access and memory unchanged. An operation of the driver, not a step (R161). -/
def State.driverReset (s : State) : State :=
  { s with cpu := resetCpu s.params.profile, bus := { s.bus with log := [] }, out := .none }

end Sys2Proof.Machine
end

