-- ==== Sys2Proof/Machine/Alu16.lean ====
section
/-! DEFINITION. 16-bit arithmetic (42_alu16.md). -/

namespace Sys2Proof.Machine

/-- R262: the addend is read before HL is written; Z is not written. -/
def addHL (rr : R16) (s : State) : State :=
  let r := add16hl s.hl (s.r16 rr) s.fZ
  (s.setR16 .hl r.1).setFlags r.2

/-- R265. -/
def addSp (e : Byte) (s : State) : State :=
  let r := addspe (s.r16 .sp) e
  (s.setR16 .sp r.1).setFlags r.2

/-- R266: SP is not written. -/
def ldHLSpPlus (e : Byte) (s : State) : State :=
  let r := addspe (s.r16 .sp) e
  (s.setR16 .hl r.1).setFlags r.2

/-! ### The rows -/

/-- 0x03, `INC BC` (R263). -/
def execINC_BC (s : State) : Outcome :=
  done 8 (s.setR16 .bc (s.r16 .bc + 1))

/-- 0x09, `ADD HL,BC` (R262). -/
def execADD_HL_BC (s : State) : Outcome :=
  done 8 (addHL .bc s)

/-- 0x0B, `DEC BC` (R264). -/
def execDEC_BC (s : State) : Outcome :=
  done 8 (s.setR16 .bc (s.r16 .bc - 1))

/-- 0x13, `INC DE` (R263). -/
def execINC_DE (s : State) : Outcome :=
  done 8 (s.setR16 .de (s.r16 .de + 1))

/-- 0x19, `ADD HL,DE` (R262). -/
def execADD_HL_DE (s : State) : Outcome :=
  done 8 (addHL .de s)

/-- 0x1B, `DEC DE` (R264). -/
def execDEC_DE (s : State) : Outcome :=
  done 8 (s.setR16 .de (s.r16 .de - 1))

/-- 0x23, `INC HL` (R263). -/
def execINC_HL (s : State) : Outcome :=
  done 8 (s.setR16 .hl (s.r16 .hl + 1))

/-- 0x29, `ADD HL,HL` (R262). -/
def execADD_HL_HL (s : State) : Outcome :=
  done 8 (addHL .hl s)

/-- 0x2B, `DEC HL` (R264). -/
def execDEC_HL (s : State) : Outcome :=
  done 8 (s.setR16 .hl (s.r16 .hl - 1))

/-- 0x33, `INC SP` (R263). -/
def execINC_SP (s : State) : Outcome :=
  done 8 (s.setR16 .sp (s.r16 .sp + 1))

/-- 0x39, `ADD HL,SP` (R262). -/
def execADD_HL_SP (s : State) : Outcome :=
  done 8 (addHL .sp s)

/-- 0x3B, `DEC SP` (R264). -/
def execDEC_SP (s : State) : Outcome :=
  done 8 (s.setR16 .sp (s.r16 .sp - 1))

/-- 0xE8, `ADD SP,e8` (R265). -/
def execADD_SP_e8 (e8 : Byte) (s : State) : Outcome :=
  done 16 (addSp e8 s)

/-- 0xF8, `LD HL,SP+e8` (R266). -/
def execLD_HL_SP_e8 (e8 : Byte) (s : State) : Outcome :=
  done 12 (ldHLSpPlus e8 s)

end Sys2Proof.Machine
end

