-- ==== Sys2Proof/Machine/Alu8.lean ====
section
/-! DEFINITION. 8-bit arithmetic and logic (41_alu8.md): the operations of the ALU implemented once over
an operand value (R155, R204), then one meaning per row. -/

namespace Sys2Proof.Machine

/-- R204, R205: one ALU operation on A and an operand value. CP discards the result (R231). -/
def aluValue (op : Alu8) (v : Byte) (s : State) : State :=
  let r := alu8 op (s.reg .a) v s.fC
  match op with
  | .cp => s.setFlags r.2
  | _ => (s.setReg .a r.1).setFlags r.2

/-- R204: the register and (HL) adapters: the operand is read once, then the operation runs. -/
def aluOpnd (op : Alu8) (o : Opnd8) (s : State) : State :=
  let r := s.readOpnd o
  aluValue op r.1 r.2

/-- R238. -/
def decimalAdjust (s : State) : State :=
  let r := daa8 (s.reg .a) s.flags
  (s.setReg .a r.1).setFlags r.2

/-- R239. -/
def complementA (s : State) : State :=
  (s.setReg .a (~~~(s.reg .a))).setFlags { s.flags with n := true, h := true }

/-- R240. -/
def setCarry (s : State) : State :=
  s.setFlags { s.flags with n := false, h := false, c := true }

/-- R241. -/
def complementCarry (s : State) : State :=
  s.setFlags { s.flags with n := false, h := false, c := !s.fC }

/-! ### The rows -/

/-- 0x04, `INC B` (R234). -/
def execINC_B (s : State) : Outcome :=
  done 4 (modifyOpnd inc8 (.reg .b) s)

/-- 0x05, `DEC B` (R236). -/
def execDEC_B (s : State) : Outcome :=
  done 4 (modifyOpnd dec8 (.reg .b) s)

/-- 0x0C, `INC C` (R234). -/
def execINC_C (s : State) : Outcome :=
  done 4 (modifyOpnd inc8 (.reg .c) s)

/-- 0x0D, `DEC C` (R236). -/
def execDEC_C (s : State) : Outcome :=
  done 4 (modifyOpnd dec8 (.reg .c) s)

/-- 0x14, `INC D` (R234). -/
def execINC_D (s : State) : Outcome :=
  done 4 (modifyOpnd inc8 (.reg .d) s)

/-- 0x15, `DEC D` (R236). -/
def execDEC_D (s : State) : Outcome :=
  done 4 (modifyOpnd dec8 (.reg .d) s)

/-- 0x1C, `INC E` (R234). -/
def execINC_E (s : State) : Outcome :=
  done 4 (modifyOpnd inc8 (.reg .e) s)

/-- 0x1D, `DEC E` (R236). -/
def execDEC_E (s : State) : Outcome :=
  done 4 (modifyOpnd dec8 (.reg .e) s)

/-- 0x24, `INC H` (R234). -/
def execINC_H (s : State) : Outcome :=
  done 4 (modifyOpnd inc8 (.reg .h) s)

/-- 0x25, `DEC H` (R236). -/
def execDEC_H (s : State) : Outcome :=
  done 4 (modifyOpnd dec8 (.reg .h) s)

/-- 0x27, `DAA` (R238). -/
def execDAA (s : State) : Outcome :=
  done 4 (decimalAdjust s)

/-- 0x2C, `INC L` (R234). -/
def execINC_L (s : State) : Outcome :=
  done 4 (modifyOpnd inc8 (.reg .l) s)

/-- 0x2D, `DEC L` (R236). -/
def execDEC_L (s : State) : Outcome :=
  done 4 (modifyOpnd dec8 (.reg .l) s)

/-- 0x2F, `CPL` (R239). -/
def execCPL (s : State) : Outcome :=
  done 4 (complementA s)

/-- 0x34, `INC (HL)` (R235). -/
def execINC_mHL (s : State) : Outcome :=
  done 12 (modifyOpnd inc8 .hl s)

/-- 0x35, `DEC (HL)` (R237). -/
def execDEC_mHL (s : State) : Outcome :=
  done 12 (modifyOpnd dec8 .hl s)

/-- 0x37, `SCF` (R240). -/
def execSCF (s : State) : Outcome :=
  done 4 (setCarry s)

/-- 0x3C, `INC A` (R234). -/
def execINC_A (s : State) : Outcome :=
  done 4 (modifyOpnd inc8 (.reg .a) s)

/-- 0x3D, `DEC A` (R236). -/
def execDEC_A (s : State) : Outcome :=
  done 4 (modifyOpnd dec8 (.reg .a) s)

/-- 0x3F, `CCF` (R241). -/
def execCCF (s : State) : Outcome :=
  done 4 (complementCarry s)

/-- 0x80, `ADD A,B` (R210). -/
def execADD_A_B (s : State) : Outcome :=
  done 4 (aluOpnd .add (.reg .b) s)

/-- 0x81, `ADD A,C` (R210). -/
def execADD_A_C (s : State) : Outcome :=
  done 4 (aluOpnd .add (.reg .c) s)

/-- 0x82, `ADD A,D` (R210). -/
def execADD_A_D (s : State) : Outcome :=
  done 4 (aluOpnd .add (.reg .d) s)

/-- 0x83, `ADD A,E` (R210). -/
def execADD_A_E (s : State) : Outcome :=
  done 4 (aluOpnd .add (.reg .e) s)

/-- 0x84, `ADD A,H` (R210). -/
def execADD_A_H (s : State) : Outcome :=
  done 4 (aluOpnd .add (.reg .h) s)

/-- 0x85, `ADD A,L` (R210). -/
def execADD_A_L (s : State) : Outcome :=
  done 4 (aluOpnd .add (.reg .l) s)

/-- 0x86, `ADD A,(HL)` (R211). -/
def execADD_A_mHL (s : State) : Outcome :=
  done 8 (aluOpnd .add .hl s)

/-- 0x87, `ADD A,A` (R210). -/
def execADD_A_A (s : State) : Outcome :=
  done 4 (aluOpnd .add (.reg .a) s)

/-- 0x88, `ADC A,B` (R213). -/
def execADC_A_B (s : State) : Outcome :=
  done 4 (aluOpnd .adc (.reg .b) s)

/-- 0x89, `ADC A,C` (R213). -/
def execADC_A_C (s : State) : Outcome :=
  done 4 (aluOpnd .adc (.reg .c) s)

/-- 0x8A, `ADC A,D` (R213). -/
def execADC_A_D (s : State) : Outcome :=
  done 4 (aluOpnd .adc (.reg .d) s)

/-- 0x8B, `ADC A,E` (R213). -/
def execADC_A_E (s : State) : Outcome :=
  done 4 (aluOpnd .adc (.reg .e) s)

/-- 0x8C, `ADC A,H` (R213). -/
def execADC_A_H (s : State) : Outcome :=
  done 4 (aluOpnd .adc (.reg .h) s)

/-- 0x8D, `ADC A,L` (R213). -/
def execADC_A_L (s : State) : Outcome :=
  done 4 (aluOpnd .adc (.reg .l) s)

/-- 0x8E, `ADC A,(HL)` (R214). -/
def execADC_A_mHL (s : State) : Outcome :=
  done 8 (aluOpnd .adc .hl s)

/-- 0x8F, `ADC A,A` (R213). -/
def execADC_A_A (s : State) : Outcome :=
  done 4 (aluOpnd .adc (.reg .a) s)

/-- 0x90, `SUB A,B` (R216). -/
def execSUB_A_B (s : State) : Outcome :=
  done 4 (aluOpnd .sub (.reg .b) s)

/-- 0x91, `SUB A,C` (R216). -/
def execSUB_A_C (s : State) : Outcome :=
  done 4 (aluOpnd .sub (.reg .c) s)

/-- 0x92, `SUB A,D` (R216). -/
def execSUB_A_D (s : State) : Outcome :=
  done 4 (aluOpnd .sub (.reg .d) s)

/-- 0x93, `SUB A,E` (R216). -/
def execSUB_A_E (s : State) : Outcome :=
  done 4 (aluOpnd .sub (.reg .e) s)

/-- 0x94, `SUB A,H` (R216). -/
def execSUB_A_H (s : State) : Outcome :=
  done 4 (aluOpnd .sub (.reg .h) s)

/-- 0x95, `SUB A,L` (R216). -/
def execSUB_A_L (s : State) : Outcome :=
  done 4 (aluOpnd .sub (.reg .l) s)

/-- 0x96, `SUB A,(HL)` (R217). -/
def execSUB_A_mHL (s : State) : Outcome :=
  done 8 (aluOpnd .sub .hl s)

/-- 0x97, `SUB A,A` (R216). -/
def execSUB_A_A (s : State) : Outcome :=
  done 4 (aluOpnd .sub (.reg .a) s)

/-- 0x98, `SBC A,B` (R219). -/
def execSBC_A_B (s : State) : Outcome :=
  done 4 (aluOpnd .sbc (.reg .b) s)

/-- 0x99, `SBC A,C` (R219). -/
def execSBC_A_C (s : State) : Outcome :=
  done 4 (aluOpnd .sbc (.reg .c) s)

/-- 0x9A, `SBC A,D` (R219). -/
def execSBC_A_D (s : State) : Outcome :=
  done 4 (aluOpnd .sbc (.reg .d) s)

/-- 0x9B, `SBC A,E` (R219). -/
def execSBC_A_E (s : State) : Outcome :=
  done 4 (aluOpnd .sbc (.reg .e) s)

/-- 0x9C, `SBC A,H` (R219). -/
def execSBC_A_H (s : State) : Outcome :=
  done 4 (aluOpnd .sbc (.reg .h) s)

/-- 0x9D, `SBC A,L` (R219). -/
def execSBC_A_L (s : State) : Outcome :=
  done 4 (aluOpnd .sbc (.reg .l) s)

/-- 0x9E, `SBC A,(HL)` (R220). -/
def execSBC_A_mHL (s : State) : Outcome :=
  done 8 (aluOpnd .sbc .hl s)

/-- 0x9F, `SBC A,A` (R219). -/
def execSBC_A_A (s : State) : Outcome :=
  done 4 (aluOpnd .sbc (.reg .a) s)

/-- 0xA0, `AND A,B` (R222). -/
def execAND_A_B (s : State) : Outcome :=
  done 4 (aluOpnd .and (.reg .b) s)

/-- 0xA1, `AND A,C` (R222). -/
def execAND_A_C (s : State) : Outcome :=
  done 4 (aluOpnd .and (.reg .c) s)

/-- 0xA2, `AND A,D` (R222). -/
def execAND_A_D (s : State) : Outcome :=
  done 4 (aluOpnd .and (.reg .d) s)

/-- 0xA3, `AND A,E` (R222). -/
def execAND_A_E (s : State) : Outcome :=
  done 4 (aluOpnd .and (.reg .e) s)

/-- 0xA4, `AND A,H` (R222). -/
def execAND_A_H (s : State) : Outcome :=
  done 4 (aluOpnd .and (.reg .h) s)

/-- 0xA5, `AND A,L` (R222). -/
def execAND_A_L (s : State) : Outcome :=
  done 4 (aluOpnd .and (.reg .l) s)

/-- 0xA6, `AND A,(HL)` (R223). -/
def execAND_A_mHL (s : State) : Outcome :=
  done 8 (aluOpnd .and .hl s)

/-- 0xA7, `AND A,A` (R222). -/
def execAND_A_A (s : State) : Outcome :=
  done 4 (aluOpnd .and (.reg .a) s)

/-- 0xA8, `XOR A,B` (R225). -/
def execXOR_A_B (s : State) : Outcome :=
  done 4 (aluOpnd .xor (.reg .b) s)

/-- 0xA9, `XOR A,C` (R225). -/
def execXOR_A_C (s : State) : Outcome :=
  done 4 (aluOpnd .xor (.reg .c) s)

/-- 0xAA, `XOR A,D` (R225). -/
def execXOR_A_D (s : State) : Outcome :=
  done 4 (aluOpnd .xor (.reg .d) s)

/-- 0xAB, `XOR A,E` (R225). -/
def execXOR_A_E (s : State) : Outcome :=
  done 4 (aluOpnd .xor (.reg .e) s)

/-- 0xAC, `XOR A,H` (R225). -/
def execXOR_A_H (s : State) : Outcome :=
  done 4 (aluOpnd .xor (.reg .h) s)

/-- 0xAD, `XOR A,L` (R225). -/
def execXOR_A_L (s : State) : Outcome :=
  done 4 (aluOpnd .xor (.reg .l) s)

/-- 0xAE, `XOR A,(HL)` (R226). -/
def execXOR_A_mHL (s : State) : Outcome :=
  done 8 (aluOpnd .xor .hl s)

/-- 0xAF, `XOR A,A` (R225). -/
def execXOR_A_A (s : State) : Outcome :=
  done 4 (aluOpnd .xor (.reg .a) s)

/-- 0xB0, `OR A,B` (R228). -/
def execOR_A_B (s : State) : Outcome :=
  done 4 (aluOpnd .or (.reg .b) s)

/-- 0xB1, `OR A,C` (R228). -/
def execOR_A_C (s : State) : Outcome :=
  done 4 (aluOpnd .or (.reg .c) s)

/-- 0xB2, `OR A,D` (R228). -/
def execOR_A_D (s : State) : Outcome :=
  done 4 (aluOpnd .or (.reg .d) s)

/-- 0xB3, `OR A,E` (R228). -/
def execOR_A_E (s : State) : Outcome :=
  done 4 (aluOpnd .or (.reg .e) s)

/-- 0xB4, `OR A,H` (R228). -/
def execOR_A_H (s : State) : Outcome :=
  done 4 (aluOpnd .or (.reg .h) s)

/-- 0xB5, `OR A,L` (R228). -/
def execOR_A_L (s : State) : Outcome :=
  done 4 (aluOpnd .or (.reg .l) s)

/-- 0xB6, `OR A,(HL)` (R229). -/
def execOR_A_mHL (s : State) : Outcome :=
  done 8 (aluOpnd .or .hl s)

/-- 0xB7, `OR A,A` (R228). -/
def execOR_A_A (s : State) : Outcome :=
  done 4 (aluOpnd .or (.reg .a) s)

/-- 0xB8, `CP A,B` (R231). -/
def execCP_A_B (s : State) : Outcome :=
  done 4 (aluOpnd .cp (.reg .b) s)

/-- 0xB9, `CP A,C` (R231). -/
def execCP_A_C (s : State) : Outcome :=
  done 4 (aluOpnd .cp (.reg .c) s)

/-- 0xBA, `CP A,D` (R231). -/
def execCP_A_D (s : State) : Outcome :=
  done 4 (aluOpnd .cp (.reg .d) s)

/-- 0xBB, `CP A,E` (R231). -/
def execCP_A_E (s : State) : Outcome :=
  done 4 (aluOpnd .cp (.reg .e) s)

/-- 0xBC, `CP A,H` (R231). -/
def execCP_A_H (s : State) : Outcome :=
  done 4 (aluOpnd .cp (.reg .h) s)

/-- 0xBD, `CP A,L` (R231). -/
def execCP_A_L (s : State) : Outcome :=
  done 4 (aluOpnd .cp (.reg .l) s)

/-- 0xBE, `CP A,(HL)` (R232). -/
def execCP_A_mHL (s : State) : Outcome :=
  done 8 (aluOpnd .cp .hl s)

/-- 0xBF, `CP A,A` (R231). -/
def execCP_A_A (s : State) : Outcome :=
  done 4 (aluOpnd .cp (.reg .a) s)

/-- 0xC6, `ADD A,n8` (R212). -/
def execADD_A_n8 (n8 : Byte) (s : State) : Outcome :=
  done 8 (aluValue .add n8 s)

/-- 0xCE, `ADC A,n8` (R215). -/
def execADC_A_n8 (n8 : Byte) (s : State) : Outcome :=
  done 8 (aluValue .adc n8 s)

/-- 0xD6, `SUB A,n8` (R218). -/
def execSUB_A_n8 (n8 : Byte) (s : State) : Outcome :=
  done 8 (aluValue .sub n8 s)

/-- 0xDE, `SBC A,n8` (R221). -/
def execSBC_A_n8 (n8 : Byte) (s : State) : Outcome :=
  done 8 (aluValue .sbc n8 s)

/-- 0xE6, `AND A,n8` (R224). -/
def execAND_A_n8 (n8 : Byte) (s : State) : Outcome :=
  done 8 (aluValue .and n8 s)

/-- 0xEE, `XOR A,n8` (R227). -/
def execXOR_A_n8 (n8 : Byte) (s : State) : Outcome :=
  done 8 (aluValue .xor n8 s)

/-- 0xF6, `OR A,n8` (R230). -/
def execOR_A_n8 (n8 : Byte) (s : State) : Outcome :=
  done 8 (aluValue .or n8 s)

/-- 0xFE, `CP A,n8` (R233). -/
def execCP_A_n8 (n8 : Byte) (s : State) : Outcome :=
  done 8 (aluValue .cp n8 s)

end Sys2Proof.Machine
end

