-- ==== Sys2Proof/Machine/BitOps.lean ====
section
/-! DEFINITION. BIT, RES and SET (43_rotate_shift_bit.md section 4). -/

namespace Sys2Proof.Machine

/-- R326, R327: the operand is read, nothing is written but Z, N and H. -/
def testBit (b : B3) (o : Opnd8) (s : State) : State :=
  let r := s.readOpnd o
  r.2.setFlags { s.flags with z := !(r.1.getLsbD b.toNat), n := false, h := true }

/-- R328 to R331: bit `b` of the operand becomes `on`. The write happens even if the value is unchanged. -/
def changeBit (on : Bool) (b : B3) (o : Opnd8) (s : State) : State :=
  let r := s.readOpnd o
  let mask : Byte := 0x01 <<< b.toNat
  r.2.writeOpnd o (if on then r.1 ||| mask else r.1 &&& ~~~mask)

/-! ### The rows -/

/-- 0xCB 0x40, `BIT 0,B` (R326). -/
def execBIT_0_B (s : State) : Outcome :=
  done 8 (testBit .n0 (.reg .b) s)

/-- 0xCB 0x41, `BIT 0,C` (R326). -/
def execBIT_0_C (s : State) : Outcome :=
  done 8 (testBit .n0 (.reg .c) s)

/-- 0xCB 0x42, `BIT 0,D` (R326). -/
def execBIT_0_D (s : State) : Outcome :=
  done 8 (testBit .n0 (.reg .d) s)

/-- 0xCB 0x43, `BIT 0,E` (R326). -/
def execBIT_0_E (s : State) : Outcome :=
  done 8 (testBit .n0 (.reg .e) s)

/-- 0xCB 0x44, `BIT 0,H` (R326). -/
def execBIT_0_H (s : State) : Outcome :=
  done 8 (testBit .n0 (.reg .h) s)

/-- 0xCB 0x45, `BIT 0,L` (R326). -/
def execBIT_0_L (s : State) : Outcome :=
  done 8 (testBit .n0 (.reg .l) s)

/-- 0xCB 0x46, `BIT 0,(HL)` (R327). -/
def execBIT_0_mHL (s : State) : Outcome :=
  done 12 (testBit .n0 .hl s)

/-- 0xCB 0x47, `BIT 0,A` (R326). -/
def execBIT_0_A (s : State) : Outcome :=
  done 8 (testBit .n0 (.reg .a) s)

/-- 0xCB 0x48, `BIT 1,B` (R326). -/
def execBIT_1_B (s : State) : Outcome :=
  done 8 (testBit .n1 (.reg .b) s)

/-- 0xCB 0x49, `BIT 1,C` (R326). -/
def execBIT_1_C (s : State) : Outcome :=
  done 8 (testBit .n1 (.reg .c) s)

/-- 0xCB 0x4A, `BIT 1,D` (R326). -/
def execBIT_1_D (s : State) : Outcome :=
  done 8 (testBit .n1 (.reg .d) s)

/-- 0xCB 0x4B, `BIT 1,E` (R326). -/
def execBIT_1_E (s : State) : Outcome :=
  done 8 (testBit .n1 (.reg .e) s)

/-- 0xCB 0x4C, `BIT 1,H` (R326). -/
def execBIT_1_H (s : State) : Outcome :=
  done 8 (testBit .n1 (.reg .h) s)

/-- 0xCB 0x4D, `BIT 1,L` (R326). -/
def execBIT_1_L (s : State) : Outcome :=
  done 8 (testBit .n1 (.reg .l) s)

/-- 0xCB 0x4E, `BIT 1,(HL)` (R327). -/
def execBIT_1_mHL (s : State) : Outcome :=
  done 12 (testBit .n1 .hl s)

/-- 0xCB 0x4F, `BIT 1,A` (R326). -/
def execBIT_1_A (s : State) : Outcome :=
  done 8 (testBit .n1 (.reg .a) s)

/-- 0xCB 0x50, `BIT 2,B` (R326). -/
def execBIT_2_B (s : State) : Outcome :=
  done 8 (testBit .n2 (.reg .b) s)

/-- 0xCB 0x51, `BIT 2,C` (R326). -/
def execBIT_2_C (s : State) : Outcome :=
  done 8 (testBit .n2 (.reg .c) s)

/-- 0xCB 0x52, `BIT 2,D` (R326). -/
def execBIT_2_D (s : State) : Outcome :=
  done 8 (testBit .n2 (.reg .d) s)

/-- 0xCB 0x53, `BIT 2,E` (R326). -/
def execBIT_2_E (s : State) : Outcome :=
  done 8 (testBit .n2 (.reg .e) s)

/-- 0xCB 0x54, `BIT 2,H` (R326). -/
def execBIT_2_H (s : State) : Outcome :=
  done 8 (testBit .n2 (.reg .h) s)

/-- 0xCB 0x55, `BIT 2,L` (R326). -/
def execBIT_2_L (s : State) : Outcome :=
  done 8 (testBit .n2 (.reg .l) s)

/-- 0xCB 0x56, `BIT 2,(HL)` (R327). -/
def execBIT_2_mHL (s : State) : Outcome :=
  done 12 (testBit .n2 .hl s)

/-- 0xCB 0x57, `BIT 2,A` (R326). -/
def execBIT_2_A (s : State) : Outcome :=
  done 8 (testBit .n2 (.reg .a) s)

/-- 0xCB 0x58, `BIT 3,B` (R326). -/
def execBIT_3_B (s : State) : Outcome :=
  done 8 (testBit .n3 (.reg .b) s)

/-- 0xCB 0x59, `BIT 3,C` (R326). -/
def execBIT_3_C (s : State) : Outcome :=
  done 8 (testBit .n3 (.reg .c) s)

/-- 0xCB 0x5A, `BIT 3,D` (R326). -/
def execBIT_3_D (s : State) : Outcome :=
  done 8 (testBit .n3 (.reg .d) s)

/-- 0xCB 0x5B, `BIT 3,E` (R326). -/
def execBIT_3_E (s : State) : Outcome :=
  done 8 (testBit .n3 (.reg .e) s)

/-- 0xCB 0x5C, `BIT 3,H` (R326). -/
def execBIT_3_H (s : State) : Outcome :=
  done 8 (testBit .n3 (.reg .h) s)

/-- 0xCB 0x5D, `BIT 3,L` (R326). -/
def execBIT_3_L (s : State) : Outcome :=
  done 8 (testBit .n3 (.reg .l) s)

/-- 0xCB 0x5E, `BIT 3,(HL)` (R327). -/
def execBIT_3_mHL (s : State) : Outcome :=
  done 12 (testBit .n3 .hl s)

/-- 0xCB 0x5F, `BIT 3,A` (R326). -/
def execBIT_3_A (s : State) : Outcome :=
  done 8 (testBit .n3 (.reg .a) s)

/-- 0xCB 0x60, `BIT 4,B` (R326). -/
def execBIT_4_B (s : State) : Outcome :=
  done 8 (testBit .n4 (.reg .b) s)

/-- 0xCB 0x61, `BIT 4,C` (R326). -/
def execBIT_4_C (s : State) : Outcome :=
  done 8 (testBit .n4 (.reg .c) s)

/-- 0xCB 0x62, `BIT 4,D` (R326). -/
def execBIT_4_D (s : State) : Outcome :=
  done 8 (testBit .n4 (.reg .d) s)

/-- 0xCB 0x63, `BIT 4,E` (R326). -/
def execBIT_4_E (s : State) : Outcome :=
  done 8 (testBit .n4 (.reg .e) s)

/-- 0xCB 0x64, `BIT 4,H` (R326). -/
def execBIT_4_H (s : State) : Outcome :=
  done 8 (testBit .n4 (.reg .h) s)

/-- 0xCB 0x65, `BIT 4,L` (R326). -/
def execBIT_4_L (s : State) : Outcome :=
  done 8 (testBit .n4 (.reg .l) s)

/-- 0xCB 0x66, `BIT 4,(HL)` (R327). -/
def execBIT_4_mHL (s : State) : Outcome :=
  done 12 (testBit .n4 .hl s)

/-- 0xCB 0x67, `BIT 4,A` (R326). -/
def execBIT_4_A (s : State) : Outcome :=
  done 8 (testBit .n4 (.reg .a) s)

/-- 0xCB 0x68, `BIT 5,B` (R326). -/
def execBIT_5_B (s : State) : Outcome :=
  done 8 (testBit .n5 (.reg .b) s)

/-- 0xCB 0x69, `BIT 5,C` (R326). -/
def execBIT_5_C (s : State) : Outcome :=
  done 8 (testBit .n5 (.reg .c) s)

/-- 0xCB 0x6A, `BIT 5,D` (R326). -/
def execBIT_5_D (s : State) : Outcome :=
  done 8 (testBit .n5 (.reg .d) s)

/-- 0xCB 0x6B, `BIT 5,E` (R326). -/
def execBIT_5_E (s : State) : Outcome :=
  done 8 (testBit .n5 (.reg .e) s)

/-- 0xCB 0x6C, `BIT 5,H` (R326). -/
def execBIT_5_H (s : State) : Outcome :=
  done 8 (testBit .n5 (.reg .h) s)

/-- 0xCB 0x6D, `BIT 5,L` (R326). -/
def execBIT_5_L (s : State) : Outcome :=
  done 8 (testBit .n5 (.reg .l) s)

/-- 0xCB 0x6E, `BIT 5,(HL)` (R327). -/
def execBIT_5_mHL (s : State) : Outcome :=
  done 12 (testBit .n5 .hl s)

/-- 0xCB 0x6F, `BIT 5,A` (R326). -/
def execBIT_5_A (s : State) : Outcome :=
  done 8 (testBit .n5 (.reg .a) s)

/-- 0xCB 0x70, `BIT 6,B` (R326). -/
def execBIT_6_B (s : State) : Outcome :=
  done 8 (testBit .n6 (.reg .b) s)

/-- 0xCB 0x71, `BIT 6,C` (R326). -/
def execBIT_6_C (s : State) : Outcome :=
  done 8 (testBit .n6 (.reg .c) s)

/-- 0xCB 0x72, `BIT 6,D` (R326). -/
def execBIT_6_D (s : State) : Outcome :=
  done 8 (testBit .n6 (.reg .d) s)

/-- 0xCB 0x73, `BIT 6,E` (R326). -/
def execBIT_6_E (s : State) : Outcome :=
  done 8 (testBit .n6 (.reg .e) s)

/-- 0xCB 0x74, `BIT 6,H` (R326). -/
def execBIT_6_H (s : State) : Outcome :=
  done 8 (testBit .n6 (.reg .h) s)

/-- 0xCB 0x75, `BIT 6,L` (R326). -/
def execBIT_6_L (s : State) : Outcome :=
  done 8 (testBit .n6 (.reg .l) s)

/-- 0xCB 0x76, `BIT 6,(HL)` (R327). -/
def execBIT_6_mHL (s : State) : Outcome :=
  done 12 (testBit .n6 .hl s)

/-- 0xCB 0x77, `BIT 6,A` (R326). -/
def execBIT_6_A (s : State) : Outcome :=
  done 8 (testBit .n6 (.reg .a) s)

/-- 0xCB 0x78, `BIT 7,B` (R326). -/
def execBIT_7_B (s : State) : Outcome :=
  done 8 (testBit .n7 (.reg .b) s)

/-- 0xCB 0x79, `BIT 7,C` (R326). -/
def execBIT_7_C (s : State) : Outcome :=
  done 8 (testBit .n7 (.reg .c) s)

/-- 0xCB 0x7A, `BIT 7,D` (R326). -/
def execBIT_7_D (s : State) : Outcome :=
  done 8 (testBit .n7 (.reg .d) s)

/-- 0xCB 0x7B, `BIT 7,E` (R326). -/
def execBIT_7_E (s : State) : Outcome :=
  done 8 (testBit .n7 (.reg .e) s)

/-- 0xCB 0x7C, `BIT 7,H` (R326). -/
def execBIT_7_H (s : State) : Outcome :=
  done 8 (testBit .n7 (.reg .h) s)

/-- 0xCB 0x7D, `BIT 7,L` (R326). -/
def execBIT_7_L (s : State) : Outcome :=
  done 8 (testBit .n7 (.reg .l) s)

/-- 0xCB 0x7E, `BIT 7,(HL)` (R327). -/
def execBIT_7_mHL (s : State) : Outcome :=
  done 12 (testBit .n7 .hl s)

/-- 0xCB 0x7F, `BIT 7,A` (R326). -/
def execBIT_7_A (s : State) : Outcome :=
  done 8 (testBit .n7 (.reg .a) s)

/-- 0xCB 0x80, `RES 0,B` (R328). -/
def execRES_0_B (s : State) : Outcome :=
  done 8 (changeBit false .n0 (.reg .b) s)

/-- 0xCB 0x81, `RES 0,C` (R328). -/
def execRES_0_C (s : State) : Outcome :=
  done 8 (changeBit false .n0 (.reg .c) s)

/-- 0xCB 0x82, `RES 0,D` (R328). -/
def execRES_0_D (s : State) : Outcome :=
  done 8 (changeBit false .n0 (.reg .d) s)

/-- 0xCB 0x83, `RES 0,E` (R328). -/
def execRES_0_E (s : State) : Outcome :=
  done 8 (changeBit false .n0 (.reg .e) s)

/-- 0xCB 0x84, `RES 0,H` (R328). -/
def execRES_0_H (s : State) : Outcome :=
  done 8 (changeBit false .n0 (.reg .h) s)

/-- 0xCB 0x85, `RES 0,L` (R328). -/
def execRES_0_L (s : State) : Outcome :=
  done 8 (changeBit false .n0 (.reg .l) s)

/-- 0xCB 0x86, `RES 0,(HL)` (R329). -/
def execRES_0_mHL (s : State) : Outcome :=
  done 16 (changeBit false .n0 .hl s)

/-- 0xCB 0x87, `RES 0,A` (R328). -/
def execRES_0_A (s : State) : Outcome :=
  done 8 (changeBit false .n0 (.reg .a) s)

/-- 0xCB 0x88, `RES 1,B` (R328). -/
def execRES_1_B (s : State) : Outcome :=
  done 8 (changeBit false .n1 (.reg .b) s)

/-- 0xCB 0x89, `RES 1,C` (R328). -/
def execRES_1_C (s : State) : Outcome :=
  done 8 (changeBit false .n1 (.reg .c) s)

/-- 0xCB 0x8A, `RES 1,D` (R328). -/
def execRES_1_D (s : State) : Outcome :=
  done 8 (changeBit false .n1 (.reg .d) s)

/-- 0xCB 0x8B, `RES 1,E` (R328). -/
def execRES_1_E (s : State) : Outcome :=
  done 8 (changeBit false .n1 (.reg .e) s)

/-- 0xCB 0x8C, `RES 1,H` (R328). -/
def execRES_1_H (s : State) : Outcome :=
  done 8 (changeBit false .n1 (.reg .h) s)

/-- 0xCB 0x8D, `RES 1,L` (R328). -/
def execRES_1_L (s : State) : Outcome :=
  done 8 (changeBit false .n1 (.reg .l) s)

/-- 0xCB 0x8E, `RES 1,(HL)` (R329). -/
def execRES_1_mHL (s : State) : Outcome :=
  done 16 (changeBit false .n1 .hl s)

/-- 0xCB 0x8F, `RES 1,A` (R328). -/
def execRES_1_A (s : State) : Outcome :=
  done 8 (changeBit false .n1 (.reg .a) s)

/-- 0xCB 0x90, `RES 2,B` (R328). -/
def execRES_2_B (s : State) : Outcome :=
  done 8 (changeBit false .n2 (.reg .b) s)

/-- 0xCB 0x91, `RES 2,C` (R328). -/
def execRES_2_C (s : State) : Outcome :=
  done 8 (changeBit false .n2 (.reg .c) s)

/-- 0xCB 0x92, `RES 2,D` (R328). -/
def execRES_2_D (s : State) : Outcome :=
  done 8 (changeBit false .n2 (.reg .d) s)

/-- 0xCB 0x93, `RES 2,E` (R328). -/
def execRES_2_E (s : State) : Outcome :=
  done 8 (changeBit false .n2 (.reg .e) s)

/-- 0xCB 0x94, `RES 2,H` (R328). -/
def execRES_2_H (s : State) : Outcome :=
  done 8 (changeBit false .n2 (.reg .h) s)

/-- 0xCB 0x95, `RES 2,L` (R328). -/
def execRES_2_L (s : State) : Outcome :=
  done 8 (changeBit false .n2 (.reg .l) s)

/-- 0xCB 0x96, `RES 2,(HL)` (R329). -/
def execRES_2_mHL (s : State) : Outcome :=
  done 16 (changeBit false .n2 .hl s)

/-- 0xCB 0x97, `RES 2,A` (R328). -/
def execRES_2_A (s : State) : Outcome :=
  done 8 (changeBit false .n2 (.reg .a) s)

/-- 0xCB 0x98, `RES 3,B` (R328). -/
def execRES_3_B (s : State) : Outcome :=
  done 8 (changeBit false .n3 (.reg .b) s)

/-- 0xCB 0x99, `RES 3,C` (R328). -/
def execRES_3_C (s : State) : Outcome :=
  done 8 (changeBit false .n3 (.reg .c) s)

/-- 0xCB 0x9A, `RES 3,D` (R328). -/
def execRES_3_D (s : State) : Outcome :=
  done 8 (changeBit false .n3 (.reg .d) s)

/-- 0xCB 0x9B, `RES 3,E` (R328). -/
def execRES_3_E (s : State) : Outcome :=
  done 8 (changeBit false .n3 (.reg .e) s)

/-- 0xCB 0x9C, `RES 3,H` (R328). -/
def execRES_3_H (s : State) : Outcome :=
  done 8 (changeBit false .n3 (.reg .h) s)

/-- 0xCB 0x9D, `RES 3,L` (R328). -/
def execRES_3_L (s : State) : Outcome :=
  done 8 (changeBit false .n3 (.reg .l) s)

/-- 0xCB 0x9E, `RES 3,(HL)` (R329). -/
def execRES_3_mHL (s : State) : Outcome :=
  done 16 (changeBit false .n3 .hl s)

/-- 0xCB 0x9F, `RES 3,A` (R328). -/
def execRES_3_A (s : State) : Outcome :=
  done 8 (changeBit false .n3 (.reg .a) s)

/-- 0xCB 0xA0, `RES 4,B` (R328). -/
def execRES_4_B (s : State) : Outcome :=
  done 8 (changeBit false .n4 (.reg .b) s)

/-- 0xCB 0xA1, `RES 4,C` (R328). -/
def execRES_4_C (s : State) : Outcome :=
  done 8 (changeBit false .n4 (.reg .c) s)

/-- 0xCB 0xA2, `RES 4,D` (R328). -/
def execRES_4_D (s : State) : Outcome :=
  done 8 (changeBit false .n4 (.reg .d) s)

/-- 0xCB 0xA3, `RES 4,E` (R328). -/
def execRES_4_E (s : State) : Outcome :=
  done 8 (changeBit false .n4 (.reg .e) s)

/-- 0xCB 0xA4, `RES 4,H` (R328). -/
def execRES_4_H (s : State) : Outcome :=
  done 8 (changeBit false .n4 (.reg .h) s)

/-- 0xCB 0xA5, `RES 4,L` (R328). -/
def execRES_4_L (s : State) : Outcome :=
  done 8 (changeBit false .n4 (.reg .l) s)

/-- 0xCB 0xA6, `RES 4,(HL)` (R329). -/
def execRES_4_mHL (s : State) : Outcome :=
  done 16 (changeBit false .n4 .hl s)

/-- 0xCB 0xA7, `RES 4,A` (R328). -/
def execRES_4_A (s : State) : Outcome :=
  done 8 (changeBit false .n4 (.reg .a) s)

/-- 0xCB 0xA8, `RES 5,B` (R328). -/
def execRES_5_B (s : State) : Outcome :=
  done 8 (changeBit false .n5 (.reg .b) s)

/-- 0xCB 0xA9, `RES 5,C` (R328). -/
def execRES_5_C (s : State) : Outcome :=
  done 8 (changeBit false .n5 (.reg .c) s)

/-- 0xCB 0xAA, `RES 5,D` (R328). -/
def execRES_5_D (s : State) : Outcome :=
  done 8 (changeBit false .n5 (.reg .d) s)

/-- 0xCB 0xAB, `RES 5,E` (R328). -/
def execRES_5_E (s : State) : Outcome :=
  done 8 (changeBit false .n5 (.reg .e) s)

/-- 0xCB 0xAC, `RES 5,H` (R328). -/
def execRES_5_H (s : State) : Outcome :=
  done 8 (changeBit false .n5 (.reg .h) s)

/-- 0xCB 0xAD, `RES 5,L` (R328). -/
def execRES_5_L (s : State) : Outcome :=
  done 8 (changeBit false .n5 (.reg .l) s)

/-- 0xCB 0xAE, `RES 5,(HL)` (R329). -/
def execRES_5_mHL (s : State) : Outcome :=
  done 16 (changeBit false .n5 .hl s)

/-- 0xCB 0xAF, `RES 5,A` (R328). -/
def execRES_5_A (s : State) : Outcome :=
  done 8 (changeBit false .n5 (.reg .a) s)

/-- 0xCB 0xB0, `RES 6,B` (R328). -/
def execRES_6_B (s : State) : Outcome :=
  done 8 (changeBit false .n6 (.reg .b) s)

/-- 0xCB 0xB1, `RES 6,C` (R328). -/
def execRES_6_C (s : State) : Outcome :=
  done 8 (changeBit false .n6 (.reg .c) s)

/-- 0xCB 0xB2, `RES 6,D` (R328). -/
def execRES_6_D (s : State) : Outcome :=
  done 8 (changeBit false .n6 (.reg .d) s)

/-- 0xCB 0xB3, `RES 6,E` (R328). -/
def execRES_6_E (s : State) : Outcome :=
  done 8 (changeBit false .n6 (.reg .e) s)

/-- 0xCB 0xB4, `RES 6,H` (R328). -/
def execRES_6_H (s : State) : Outcome :=
  done 8 (changeBit false .n6 (.reg .h) s)

/-- 0xCB 0xB5, `RES 6,L` (R328). -/
def execRES_6_L (s : State) : Outcome :=
  done 8 (changeBit false .n6 (.reg .l) s)

/-- 0xCB 0xB6, `RES 6,(HL)` (R329). -/
def execRES_6_mHL (s : State) : Outcome :=
  done 16 (changeBit false .n6 .hl s)

/-- 0xCB 0xB7, `RES 6,A` (R328). -/
def execRES_6_A (s : State) : Outcome :=
  done 8 (changeBit false .n6 (.reg .a) s)

/-- 0xCB 0xB8, `RES 7,B` (R328). -/
def execRES_7_B (s : State) : Outcome :=
  done 8 (changeBit false .n7 (.reg .b) s)

/-- 0xCB 0xB9, `RES 7,C` (R328). -/
def execRES_7_C (s : State) : Outcome :=
  done 8 (changeBit false .n7 (.reg .c) s)

/-- 0xCB 0xBA, `RES 7,D` (R328). -/
def execRES_7_D (s : State) : Outcome :=
  done 8 (changeBit false .n7 (.reg .d) s)

/-- 0xCB 0xBB, `RES 7,E` (R328). -/
def execRES_7_E (s : State) : Outcome :=
  done 8 (changeBit false .n7 (.reg .e) s)

/-- 0xCB 0xBC, `RES 7,H` (R328). -/
def execRES_7_H (s : State) : Outcome :=
  done 8 (changeBit false .n7 (.reg .h) s)

/-- 0xCB 0xBD, `RES 7,L` (R328). -/
def execRES_7_L (s : State) : Outcome :=
  done 8 (changeBit false .n7 (.reg .l) s)

/-- 0xCB 0xBE, `RES 7,(HL)` (R329). -/
def execRES_7_mHL (s : State) : Outcome :=
  done 16 (changeBit false .n7 .hl s)

/-- 0xCB 0xBF, `RES 7,A` (R328). -/
def execRES_7_A (s : State) : Outcome :=
  done 8 (changeBit false .n7 (.reg .a) s)

/-- 0xCB 0xC0, `SET 0,B` (R330). -/
def execSET_0_B (s : State) : Outcome :=
  done 8 (changeBit true .n0 (.reg .b) s)

/-- 0xCB 0xC1, `SET 0,C` (R330). -/
def execSET_0_C (s : State) : Outcome :=
  done 8 (changeBit true .n0 (.reg .c) s)

/-- 0xCB 0xC2, `SET 0,D` (R330). -/
def execSET_0_D (s : State) : Outcome :=
  done 8 (changeBit true .n0 (.reg .d) s)

/-- 0xCB 0xC3, `SET 0,E` (R330). -/
def execSET_0_E (s : State) : Outcome :=
  done 8 (changeBit true .n0 (.reg .e) s)

/-- 0xCB 0xC4, `SET 0,H` (R330). -/
def execSET_0_H (s : State) : Outcome :=
  done 8 (changeBit true .n0 (.reg .h) s)

/-- 0xCB 0xC5, `SET 0,L` (R330). -/
def execSET_0_L (s : State) : Outcome :=
  done 8 (changeBit true .n0 (.reg .l) s)

/-- 0xCB 0xC6, `SET 0,(HL)` (R331). -/
def execSET_0_mHL (s : State) : Outcome :=
  done 16 (changeBit true .n0 .hl s)

/-- 0xCB 0xC7, `SET 0,A` (R330). -/
def execSET_0_A (s : State) : Outcome :=
  done 8 (changeBit true .n0 (.reg .a) s)

/-- 0xCB 0xC8, `SET 1,B` (R330). -/
def execSET_1_B (s : State) : Outcome :=
  done 8 (changeBit true .n1 (.reg .b) s)

/-- 0xCB 0xC9, `SET 1,C` (R330). -/
def execSET_1_C (s : State) : Outcome :=
  done 8 (changeBit true .n1 (.reg .c) s)

/-- 0xCB 0xCA, `SET 1,D` (R330). -/
def execSET_1_D (s : State) : Outcome :=
  done 8 (changeBit true .n1 (.reg .d) s)

/-- 0xCB 0xCB, `SET 1,E` (R330). -/
def execSET_1_E (s : State) : Outcome :=
  done 8 (changeBit true .n1 (.reg .e) s)

/-- 0xCB 0xCC, `SET 1,H` (R330). -/
def execSET_1_H (s : State) : Outcome :=
  done 8 (changeBit true .n1 (.reg .h) s)

/-- 0xCB 0xCD, `SET 1,L` (R330). -/
def execSET_1_L (s : State) : Outcome :=
  done 8 (changeBit true .n1 (.reg .l) s)

/-- 0xCB 0xCE, `SET 1,(HL)` (R331). -/
def execSET_1_mHL (s : State) : Outcome :=
  done 16 (changeBit true .n1 .hl s)

/-- 0xCB 0xCF, `SET 1,A` (R330). -/
def execSET_1_A (s : State) : Outcome :=
  done 8 (changeBit true .n1 (.reg .a) s)

/-- 0xCB 0xD0, `SET 2,B` (R330). -/
def execSET_2_B (s : State) : Outcome :=
  done 8 (changeBit true .n2 (.reg .b) s)

/-- 0xCB 0xD1, `SET 2,C` (R330). -/
def execSET_2_C (s : State) : Outcome :=
  done 8 (changeBit true .n2 (.reg .c) s)

/-- 0xCB 0xD2, `SET 2,D` (R330). -/
def execSET_2_D (s : State) : Outcome :=
  done 8 (changeBit true .n2 (.reg .d) s)

/-- 0xCB 0xD3, `SET 2,E` (R330). -/
def execSET_2_E (s : State) : Outcome :=
  done 8 (changeBit true .n2 (.reg .e) s)

/-- 0xCB 0xD4, `SET 2,H` (R330). -/
def execSET_2_H (s : State) : Outcome :=
  done 8 (changeBit true .n2 (.reg .h) s)

/-- 0xCB 0xD5, `SET 2,L` (R330). -/
def execSET_2_L (s : State) : Outcome :=
  done 8 (changeBit true .n2 (.reg .l) s)

/-- 0xCB 0xD6, `SET 2,(HL)` (R331). -/
def execSET_2_mHL (s : State) : Outcome :=
  done 16 (changeBit true .n2 .hl s)

/-- 0xCB 0xD7, `SET 2,A` (R330). -/
def execSET_2_A (s : State) : Outcome :=
  done 8 (changeBit true .n2 (.reg .a) s)

/-- 0xCB 0xD8, `SET 3,B` (R330). -/
def execSET_3_B (s : State) : Outcome :=
  done 8 (changeBit true .n3 (.reg .b) s)

/-- 0xCB 0xD9, `SET 3,C` (R330). -/
def execSET_3_C (s : State) : Outcome :=
  done 8 (changeBit true .n3 (.reg .c) s)

/-- 0xCB 0xDA, `SET 3,D` (R330). -/
def execSET_3_D (s : State) : Outcome :=
  done 8 (changeBit true .n3 (.reg .d) s)

/-- 0xCB 0xDB, `SET 3,E` (R330). -/
def execSET_3_E (s : State) : Outcome :=
  done 8 (changeBit true .n3 (.reg .e) s)

/-- 0xCB 0xDC, `SET 3,H` (R330). -/
def execSET_3_H (s : State) : Outcome :=
  done 8 (changeBit true .n3 (.reg .h) s)

/-- 0xCB 0xDD, `SET 3,L` (R330). -/
def execSET_3_L (s : State) : Outcome :=
  done 8 (changeBit true .n3 (.reg .l) s)

/-- 0xCB 0xDE, `SET 3,(HL)` (R331). -/
def execSET_3_mHL (s : State) : Outcome :=
  done 16 (changeBit true .n3 .hl s)

/-- 0xCB 0xDF, `SET 3,A` (R330). -/
def execSET_3_A (s : State) : Outcome :=
  done 8 (changeBit true .n3 (.reg .a) s)

/-- 0xCB 0xE0, `SET 4,B` (R330). -/
def execSET_4_B (s : State) : Outcome :=
  done 8 (changeBit true .n4 (.reg .b) s)

/-- 0xCB 0xE1, `SET 4,C` (R330). -/
def execSET_4_C (s : State) : Outcome :=
  done 8 (changeBit true .n4 (.reg .c) s)

/-- 0xCB 0xE2, `SET 4,D` (R330). -/
def execSET_4_D (s : State) : Outcome :=
  done 8 (changeBit true .n4 (.reg .d) s)

/-- 0xCB 0xE3, `SET 4,E` (R330). -/
def execSET_4_E (s : State) : Outcome :=
  done 8 (changeBit true .n4 (.reg .e) s)

/-- 0xCB 0xE4, `SET 4,H` (R330). -/
def execSET_4_H (s : State) : Outcome :=
  done 8 (changeBit true .n4 (.reg .h) s)

/-- 0xCB 0xE5, `SET 4,L` (R330). -/
def execSET_4_L (s : State) : Outcome :=
  done 8 (changeBit true .n4 (.reg .l) s)

/-- 0xCB 0xE6, `SET 4,(HL)` (R331). -/
def execSET_4_mHL (s : State) : Outcome :=
  done 16 (changeBit true .n4 .hl s)

/-- 0xCB 0xE7, `SET 4,A` (R330). -/
def execSET_4_A (s : State) : Outcome :=
  done 8 (changeBit true .n4 (.reg .a) s)

/-- 0xCB 0xE8, `SET 5,B` (R330). -/
def execSET_5_B (s : State) : Outcome :=
  done 8 (changeBit true .n5 (.reg .b) s)

/-- 0xCB 0xE9, `SET 5,C` (R330). -/
def execSET_5_C (s : State) : Outcome :=
  done 8 (changeBit true .n5 (.reg .c) s)

/-- 0xCB 0xEA, `SET 5,D` (R330). -/
def execSET_5_D (s : State) : Outcome :=
  done 8 (changeBit true .n5 (.reg .d) s)

/-- 0xCB 0xEB, `SET 5,E` (R330). -/
def execSET_5_E (s : State) : Outcome :=
  done 8 (changeBit true .n5 (.reg .e) s)

/-- 0xCB 0xEC, `SET 5,H` (R330). -/
def execSET_5_H (s : State) : Outcome :=
  done 8 (changeBit true .n5 (.reg .h) s)

/-- 0xCB 0xED, `SET 5,L` (R330). -/
def execSET_5_L (s : State) : Outcome :=
  done 8 (changeBit true .n5 (.reg .l) s)

/-- 0xCB 0xEE, `SET 5,(HL)` (R331). -/
def execSET_5_mHL (s : State) : Outcome :=
  done 16 (changeBit true .n5 .hl s)

/-- 0xCB 0xEF, `SET 5,A` (R330). -/
def execSET_5_A (s : State) : Outcome :=
  done 8 (changeBit true .n5 (.reg .a) s)

/-- 0xCB 0xF0, `SET 6,B` (R330). -/
def execSET_6_B (s : State) : Outcome :=
  done 8 (changeBit true .n6 (.reg .b) s)

/-- 0xCB 0xF1, `SET 6,C` (R330). -/
def execSET_6_C (s : State) : Outcome :=
  done 8 (changeBit true .n6 (.reg .c) s)

/-- 0xCB 0xF2, `SET 6,D` (R330). -/
def execSET_6_D (s : State) : Outcome :=
  done 8 (changeBit true .n6 (.reg .d) s)

/-- 0xCB 0xF3, `SET 6,E` (R330). -/
def execSET_6_E (s : State) : Outcome :=
  done 8 (changeBit true .n6 (.reg .e) s)

/-- 0xCB 0xF4, `SET 6,H` (R330). -/
def execSET_6_H (s : State) : Outcome :=
  done 8 (changeBit true .n6 (.reg .h) s)

/-- 0xCB 0xF5, `SET 6,L` (R330). -/
def execSET_6_L (s : State) : Outcome :=
  done 8 (changeBit true .n6 (.reg .l) s)

/-- 0xCB 0xF6, `SET 6,(HL)` (R331). -/
def execSET_6_mHL (s : State) : Outcome :=
  done 16 (changeBit true .n6 .hl s)

/-- 0xCB 0xF7, `SET 6,A` (R330). -/
def execSET_6_A (s : State) : Outcome :=
  done 8 (changeBit true .n6 (.reg .a) s)

/-- 0xCB 0xF8, `SET 7,B` (R330). -/
def execSET_7_B (s : State) : Outcome :=
  done 8 (changeBit true .n7 (.reg .b) s)

/-- 0xCB 0xF9, `SET 7,C` (R330). -/
def execSET_7_C (s : State) : Outcome :=
  done 8 (changeBit true .n7 (.reg .c) s)

/-- 0xCB 0xFA, `SET 7,D` (R330). -/
def execSET_7_D (s : State) : Outcome :=
  done 8 (changeBit true .n7 (.reg .d) s)

/-- 0xCB 0xFB, `SET 7,E` (R330). -/
def execSET_7_E (s : State) : Outcome :=
  done 8 (changeBit true .n7 (.reg .e) s)

/-- 0xCB 0xFC, `SET 7,H` (R330). -/
def execSET_7_H (s : State) : Outcome :=
  done 8 (changeBit true .n7 (.reg .h) s)

/-- 0xCB 0xFD, `SET 7,L` (R330). -/
def execSET_7_L (s : State) : Outcome :=
  done 8 (changeBit true .n7 (.reg .l) s)

/-- 0xCB 0xFE, `SET 7,(HL)` (R331). -/
def execSET_7_mHL (s : State) : Outcome :=
  done 16 (changeBit true .n7 .hl s)

/-- 0xCB 0xFF, `SET 7,A` (R330). -/
def execSET_7_A (s : State) : Outcome :=
  done 8 (changeBit true .n7 (.reg .a) s)

end Sys2Proof.Machine
end

