-- ==== Sys2Proof/Machine/Control.lean ====
section
/-! DEFINITION. Control transfer (45_control.md). `s.pc` already points past the whole instruction. -/

namespace Sys2Proof.Machine

/-- R500, R157: a conditional instruction: the transfer and the taken cost, or nothing and the not-taken
cost. -/
def doneIf (cc : Cond) (taken notTaken : Nat) (target s : State) : Outcome :=
  if s.holds cc then done taken target else done notTaken s

/-- R501, R503. -/
def jp (t : Word) (s : State) : State :=
  s.setPc t

/-- R504: relative to the address after the instruction, wrapping. -/
def jr (e : Byte) (s : State) : State :=
  s.setPc (s.pc + e.signExtend 16)

/-- R506: the return address is pushed, then pc takes the target. -/
def call (t : Word) (s : State) : State :=
  (s.push16 s.pc).setPc t

/-- R508. -/
def ret (s : State) : State :=
  let r := s.pop16
  r.2.setPc r.1

/-- R511, R128: a call of `zext_16(y) << 3`. -/
def rst (y : B3) (s : State) : State :=
  call (BitVec.ofNat 16 y.toNat <<< 3) s

/-! ### The rows -/

/-- 0x18, `JR e8` (R504). -/
def execJR_e8 (e8 : Byte) (s : State) : Outcome :=
  done 12 (jr e8 s)

/-- 0x20, `JR NZ,e8` (R505). -/
def execJR_NZ_e8 (e8 : Byte) (s : State) : Outcome :=
  doneIf .nz 12 8 (jr e8 s) s

/-- 0x28, `JR Z,e8` (R505). -/
def execJR_Z_e8 (e8 : Byte) (s : State) : Outcome :=
  doneIf .z 12 8 (jr e8 s) s

/-- 0x30, `JR NC,e8` (R505). -/
def execJR_NC_e8 (e8 : Byte) (s : State) : Outcome :=
  doneIf .nc 12 8 (jr e8 s) s

/-- 0x38, `JR C,e8` (R505). -/
def execJR_C_e8 (e8 : Byte) (s : State) : Outcome :=
  doneIf .c 12 8 (jr e8 s) s

/-- 0xC0, `RET NZ` (R509). -/
def execRET_NZ (s : State) : Outcome :=
  doneIf .nz 20 8 (ret s) s

/-- 0xC2, `JP NZ,a16` (R502). -/
def execJP_NZ_a16 (a16 : Word) (s : State) : Outcome :=
  doneIf .nz 16 12 (jp a16 s) s

/-- 0xC3, `JP a16` (R501). -/
def execJP_a16 (a16 : Word) (s : State) : Outcome :=
  done 16 (jp a16 s)

/-- 0xC4, `CALL NZ,a16` (R507). -/
def execCALL_NZ_a16 (a16 : Word) (s : State) : Outcome :=
  doneIf .nz 24 12 (call a16 s) s

/-- 0xC7, `RST 0x00` (R511). -/
def execRST_0x00 (s : State) : Outcome :=
  done 16 (rst .n0 s)

/-- 0xC8, `RET Z` (R509). -/
def execRET_Z (s : State) : Outcome :=
  doneIf .z 20 8 (ret s) s

/-- 0xC9, `RET` (R508). -/
def execRET (s : State) : Outcome :=
  done 16 (ret s)

/-- 0xCA, `JP Z,a16` (R502). -/
def execJP_Z_a16 (a16 : Word) (s : State) : Outcome :=
  doneIf .z 16 12 (jp a16 s) s

/-- 0xCC, `CALL Z,a16` (R507). -/
def execCALL_Z_a16 (a16 : Word) (s : State) : Outcome :=
  doneIf .z 24 12 (call a16 s) s

/-- 0xCD, `CALL a16` (R506). -/
def execCALL_a16 (a16 : Word) (s : State) : Outcome :=
  done 24 (call a16 s)

/-- 0xCF, `RST 0x08` (R511). -/
def execRST_0x08 (s : State) : Outcome :=
  done 16 (rst .n1 s)

/-- 0xD0, `RET NC` (R509). -/
def execRET_NC (s : State) : Outcome :=
  doneIf .nc 20 8 (ret s) s

/-- 0xD2, `JP NC,a16` (R502). -/
def execJP_NC_a16 (a16 : Word) (s : State) : Outcome :=
  doneIf .nc 16 12 (jp a16 s) s

/-- 0xD4, `CALL NC,a16` (R507). -/
def execCALL_NC_a16 (a16 : Word) (s : State) : Outcome :=
  doneIf .nc 24 12 (call a16 s) s

/-- 0xD7, `RST 0x10` (R511). -/
def execRST_0x10 (s : State) : Outcome :=
  done 16 (rst .n2 s)

/-- 0xD8, `RET C` (R509). -/
def execRET_C (s : State) : Outcome :=
  doneIf .c 20 8 (ret s) s

/-- 0xD9, `RETI` (R510). -/
def execRETI (s : State) : Outcome :=
  done 16 (returnFromInterrupt s)

/-- 0xDA, `JP C,a16` (R502). -/
def execJP_C_a16 (a16 : Word) (s : State) : Outcome :=
  doneIf .c 16 12 (jp a16 s) s

/-- 0xDC, `CALL C,a16` (R507). -/
def execCALL_C_a16 (a16 : Word) (s : State) : Outcome :=
  doneIf .c 24 12 (call a16 s) s

/-- 0xDF, `RST 0x18` (R511). -/
def execRST_0x18 (s : State) : Outcome :=
  done 16 (rst .n3 s)

/-- 0xE7, `RST 0x20` (R511). -/
def execRST_0x20 (s : State) : Outcome :=
  done 16 (rst .n4 s)

/-- 0xE9, `JP HL` (R503). -/
def execJP_HL (s : State) : Outcome :=
  done 4 (jp s.hl s)

/-- 0xEF, `RST 0x28` (R511). -/
def execRST_0x28 (s : State) : Outcome :=
  done 16 (rst .n5 s)

/-- 0xF7, `RST 0x30` (R511). -/
def execRST_0x30 (s : State) : Outcome :=
  done 16 (rst .n6 s)

/-- 0xFF, `RST 0x38` (R511). -/
def execRST_0x38 (s : State) : Outcome :=
  done 16 (rst .n7 s)

end Sys2Proof.Machine
end

