-- ==== Sys2Proof/Machine/LoadStore.lean ====
section
/-! DEFINITION. Loads, stores and stack transfers (44_load_store.md). No row here writes a flag but POP
AF. -/

namespace Sys2Proof.Machine

/-- R400. -/
def ldRegReg (dst src : Reg8) (s : State) : State :=
  s.setReg dst (s.reg src)

/-- R402, R405, R406, R409, R411, R413: a register takes the byte at an address formed before the
register is written. -/
def ldRegMem (dst : Reg8) (a : Word) (s : State) : State :=
  let r := s.memRead a
  r.2.setReg dst r.1

/-- R405, R406, R415, R416: `LD A,(rr)`: A is loaded, then HL+ and HL- move HL. -/
def loadA (m : R16Mem) (s : State) : State :=
  (ldRegMem .a (s.memAddr m) s).stepHL m

/-- R407, R408, R417, R418: `LD (rr),A`: A is stored, then HL+ and HL- move HL. -/
def storeA (m : R16Mem) (s : State) : State :=
  (s.memWrite (s.memAddr m) (s.reg .a)).stepHL m

/-- R420: low byte at `a`, then high byte at `a + 1`. -/
def storeSp (a : Word) (s : State) : State :=
  (s.memWrite a (loByte (s.r16 .sp))).memWrite (a + 1) (hiByte (s.r16 .sp))

/-! ### The rows -/

/-- 0x01, `LD BC,n16` (R419). -/
def execLD_BC_n16 (n16 : Word) (s : State) : Outcome :=
  done 12 (s.setR16 .bc n16)

/-- 0x02, `LD (BC),A` (R407). -/
def execLD_mBC_A (s : State) : Outcome :=
  done 8 (storeA .bc s)

/-- 0x06, `LD B,n8` (R401). -/
def execLD_B_n8 (n8 : Byte) (s : State) : Outcome :=
  done 8 (s.setReg .b n8)

/-- 0x08, `LD (a16),SP` (R420). -/
def execLD_ma16_SP (a16 : Word) (s : State) : Outcome :=
  done 20 (storeSp a16 s)

/-- 0x0A, `LD A,(BC)` (R405). -/
def execLD_A_mBC (s : State) : Outcome :=
  done 8 (loadA .bc s)

/-- 0x0E, `LD C,n8` (R401). -/
def execLD_C_n8 (n8 : Byte) (s : State) : Outcome :=
  done 8 (s.setReg .c n8)

/-- 0x11, `LD DE,n16` (R419). -/
def execLD_DE_n16 (n16 : Word) (s : State) : Outcome :=
  done 12 (s.setR16 .de n16)

/-- 0x12, `LD (DE),A` (R408). -/
def execLD_mDE_A (s : State) : Outcome :=
  done 8 (storeA .de s)

/-- 0x16, `LD D,n8` (R401). -/
def execLD_D_n8 (n8 : Byte) (s : State) : Outcome :=
  done 8 (s.setReg .d n8)

/-- 0x1A, `LD A,(DE)` (R406). -/
def execLD_A_mDE (s : State) : Outcome :=
  done 8 (loadA .de s)

/-- 0x1E, `LD E,n8` (R401). -/
def execLD_E_n8 (n8 : Byte) (s : State) : Outcome :=
  done 8 (s.setReg .e n8)

/-- 0x21, `LD HL,n16` (R419). -/
def execLD_HL_n16 (n16 : Word) (s : State) : Outcome :=
  done 12 (s.setR16 .hl n16)

/-- 0x22, `LD (HL+),A` (R417). -/
def execLD_mHLI_A (s : State) : Outcome :=
  done 8 (storeA .hli s)

/-- 0x26, `LD H,n8` (R401). -/
def execLD_H_n8 (n8 : Byte) (s : State) : Outcome :=
  done 8 (s.setReg .h n8)

/-- 0x2A, `LD A,(HL+)` (R415). -/
def execLD_A_mHLI (s : State) : Outcome :=
  done 8 (loadA .hli s)

/-- 0x2E, `LD L,n8` (R401). -/
def execLD_L_n8 (n8 : Byte) (s : State) : Outcome :=
  done 8 (s.setReg .l n8)

/-- 0x31, `LD SP,n16` (R419). -/
def execLD_SP_n16 (n16 : Word) (s : State) : Outcome :=
  done 12 (s.setR16 .sp n16)

/-- 0x32, `LD (HL-),A` (R418). -/
def execLD_mHLD_A (s : State) : Outcome :=
  done 8 (storeA .hld s)

/-- 0x36, `LD (HL),n8` (R404). -/
def execLD_mHL_n8 (n8 : Byte) (s : State) : Outcome :=
  done 12 (s.memWrite s.hl n8)

/-- 0x3A, `LD A,(HL-)` (R416). -/
def execLD_A_mHLD (s : State) : Outcome :=
  done 8 (loadA .hld s)

/-- 0x3E, `LD A,n8` (R401). -/
def execLD_A_n8 (n8 : Byte) (s : State) : Outcome :=
  done 8 (s.setReg .a n8)

/-- 0x40, `LD B,B` (R400). -/
def execLD_B_B (s : State) : Outcome :=
  done 4 (ldRegReg .b .b s)

/-- 0x41, `LD B,C` (R400). -/
def execLD_B_C (s : State) : Outcome :=
  done 4 (ldRegReg .b .c s)

/-- 0x42, `LD B,D` (R400). -/
def execLD_B_D (s : State) : Outcome :=
  done 4 (ldRegReg .b .d s)

/-- 0x43, `LD B,E` (R400). -/
def execLD_B_E (s : State) : Outcome :=
  done 4 (ldRegReg .b .e s)

/-- 0x44, `LD B,H` (R400). -/
def execLD_B_H (s : State) : Outcome :=
  done 4 (ldRegReg .b .h s)

/-- 0x45, `LD B,L` (R400). -/
def execLD_B_L (s : State) : Outcome :=
  done 4 (ldRegReg .b .l s)

/-- 0x46, `LD B,(HL)` (R402). -/
def execLD_B_mHL (s : State) : Outcome :=
  done 8 (ldRegMem .b s.hl s)

/-- 0x47, `LD B,A` (R400). -/
def execLD_B_A (s : State) : Outcome :=
  done 4 (ldRegReg .b .a s)

/-- 0x48, `LD C,B` (R400). -/
def execLD_C_B (s : State) : Outcome :=
  done 4 (ldRegReg .c .b s)

/-- 0x49, `LD C,C` (R400). -/
def execLD_C_C (s : State) : Outcome :=
  done 4 (ldRegReg .c .c s)

/-- 0x4A, `LD C,D` (R400). -/
def execLD_C_D (s : State) : Outcome :=
  done 4 (ldRegReg .c .d s)

/-- 0x4B, `LD C,E` (R400). -/
def execLD_C_E (s : State) : Outcome :=
  done 4 (ldRegReg .c .e s)

/-- 0x4C, `LD C,H` (R400). -/
def execLD_C_H (s : State) : Outcome :=
  done 4 (ldRegReg .c .h s)

/-- 0x4D, `LD C,L` (R400). -/
def execLD_C_L (s : State) : Outcome :=
  done 4 (ldRegReg .c .l s)

/-- 0x4E, `LD C,(HL)` (R402). -/
def execLD_C_mHL (s : State) : Outcome :=
  done 8 (ldRegMem .c s.hl s)

/-- 0x4F, `LD C,A` (R400). -/
def execLD_C_A (s : State) : Outcome :=
  done 4 (ldRegReg .c .a s)

/-- 0x50, `LD D,B` (R400). -/
def execLD_D_B (s : State) : Outcome :=
  done 4 (ldRegReg .d .b s)

/-- 0x51, `LD D,C` (R400). -/
def execLD_D_C (s : State) : Outcome :=
  done 4 (ldRegReg .d .c s)

/-- 0x52, `LD D,D` (R400). -/
def execLD_D_D (s : State) : Outcome :=
  done 4 (ldRegReg .d .d s)

/-- 0x53, `LD D,E` (R400). -/
def execLD_D_E (s : State) : Outcome :=
  done 4 (ldRegReg .d .e s)

/-- 0x54, `LD D,H` (R400). -/
def execLD_D_H (s : State) : Outcome :=
  done 4 (ldRegReg .d .h s)

/-- 0x55, `LD D,L` (R400). -/
def execLD_D_L (s : State) : Outcome :=
  done 4 (ldRegReg .d .l s)

/-- 0x56, `LD D,(HL)` (R402). -/
def execLD_D_mHL (s : State) : Outcome :=
  done 8 (ldRegMem .d s.hl s)

/-- 0x57, `LD D,A` (R400). -/
def execLD_D_A (s : State) : Outcome :=
  done 4 (ldRegReg .d .a s)

/-- 0x58, `LD E,B` (R400). -/
def execLD_E_B (s : State) : Outcome :=
  done 4 (ldRegReg .e .b s)

/-- 0x59, `LD E,C` (R400). -/
def execLD_E_C (s : State) : Outcome :=
  done 4 (ldRegReg .e .c s)

/-- 0x5A, `LD E,D` (R400). -/
def execLD_E_D (s : State) : Outcome :=
  done 4 (ldRegReg .e .d s)

/-- 0x5B, `LD E,E` (R400). -/
def execLD_E_E (s : State) : Outcome :=
  done 4 (ldRegReg .e .e s)

/-- 0x5C, `LD E,H` (R400). -/
def execLD_E_H (s : State) : Outcome :=
  done 4 (ldRegReg .e .h s)

/-- 0x5D, `LD E,L` (R400). -/
def execLD_E_L (s : State) : Outcome :=
  done 4 (ldRegReg .e .l s)

/-- 0x5E, `LD E,(HL)` (R402). -/
def execLD_E_mHL (s : State) : Outcome :=
  done 8 (ldRegMem .e s.hl s)

/-- 0x5F, `LD E,A` (R400). -/
def execLD_E_A (s : State) : Outcome :=
  done 4 (ldRegReg .e .a s)

/-- 0x60, `LD H,B` (R400). -/
def execLD_H_B (s : State) : Outcome :=
  done 4 (ldRegReg .h .b s)

/-- 0x61, `LD H,C` (R400). -/
def execLD_H_C (s : State) : Outcome :=
  done 4 (ldRegReg .h .c s)

/-- 0x62, `LD H,D` (R400). -/
def execLD_H_D (s : State) : Outcome :=
  done 4 (ldRegReg .h .d s)

/-- 0x63, `LD H,E` (R400). -/
def execLD_H_E (s : State) : Outcome :=
  done 4 (ldRegReg .h .e s)

/-- 0x64, `LD H,H` (R400). -/
def execLD_H_H (s : State) : Outcome :=
  done 4 (ldRegReg .h .h s)

/-- 0x65, `LD H,L` (R400). -/
def execLD_H_L (s : State) : Outcome :=
  done 4 (ldRegReg .h .l s)

/-- 0x66, `LD H,(HL)` (R402). -/
def execLD_H_mHL (s : State) : Outcome :=
  done 8 (ldRegMem .h s.hl s)

/-- 0x67, `LD H,A` (R400). -/
def execLD_H_A (s : State) : Outcome :=
  done 4 (ldRegReg .h .a s)

/-- 0x68, `LD L,B` (R400). -/
def execLD_L_B (s : State) : Outcome :=
  done 4 (ldRegReg .l .b s)

/-- 0x69, `LD L,C` (R400). -/
def execLD_L_C (s : State) : Outcome :=
  done 4 (ldRegReg .l .c s)

/-- 0x6A, `LD L,D` (R400). -/
def execLD_L_D (s : State) : Outcome :=
  done 4 (ldRegReg .l .d s)

/-- 0x6B, `LD L,E` (R400). -/
def execLD_L_E (s : State) : Outcome :=
  done 4 (ldRegReg .l .e s)

/-- 0x6C, `LD L,H` (R400). -/
def execLD_L_H (s : State) : Outcome :=
  done 4 (ldRegReg .l .h s)

/-- 0x6D, `LD L,L` (R400). -/
def execLD_L_L (s : State) : Outcome :=
  done 4 (ldRegReg .l .l s)

/-- 0x6E, `LD L,(HL)` (R402). -/
def execLD_L_mHL (s : State) : Outcome :=
  done 8 (ldRegMem .l s.hl s)

/-- 0x6F, `LD L,A` (R400). -/
def execLD_L_A (s : State) : Outcome :=
  done 4 (ldRegReg .l .a s)

/-- 0x70, `LD (HL),B` (R403). -/
def execLD_mHL_B (s : State) : Outcome :=
  done 8 (s.memWrite s.hl (s.reg .b))

/-- 0x71, `LD (HL),C` (R403). -/
def execLD_mHL_C (s : State) : Outcome :=
  done 8 (s.memWrite s.hl (s.reg .c))

/-- 0x72, `LD (HL),D` (R403). -/
def execLD_mHL_D (s : State) : Outcome :=
  done 8 (s.memWrite s.hl (s.reg .d))

/-- 0x73, `LD (HL),E` (R403). -/
def execLD_mHL_E (s : State) : Outcome :=
  done 8 (s.memWrite s.hl (s.reg .e))

/-- 0x74, `LD (HL),H` (R403). -/
def execLD_mHL_H (s : State) : Outcome :=
  done 8 (s.memWrite s.hl (s.reg .h))

/-- 0x75, `LD (HL),L` (R403). -/
def execLD_mHL_L (s : State) : Outcome :=
  done 8 (s.memWrite s.hl (s.reg .l))

/-- 0x77, `LD (HL),A` (R403). -/
def execLD_mHL_A (s : State) : Outcome :=
  done 8 (s.memWrite s.hl (s.reg .a))

/-- 0x78, `LD A,B` (R400). -/
def execLD_A_B (s : State) : Outcome :=
  done 4 (ldRegReg .a .b s)

/-- 0x79, `LD A,C` (R400). -/
def execLD_A_C (s : State) : Outcome :=
  done 4 (ldRegReg .a .c s)

/-- 0x7A, `LD A,D` (R400). -/
def execLD_A_D (s : State) : Outcome :=
  done 4 (ldRegReg .a .d s)

/-- 0x7B, `LD A,E` (R400). -/
def execLD_A_E (s : State) : Outcome :=
  done 4 (ldRegReg .a .e s)

/-- 0x7C, `LD A,H` (R400). -/
def execLD_A_H (s : State) : Outcome :=
  done 4 (ldRegReg .a .h s)

/-- 0x7D, `LD A,L` (R400). -/
def execLD_A_L (s : State) : Outcome :=
  done 4 (ldRegReg .a .l s)

/-- 0x7E, `LD A,(HL)` (R402). -/
def execLD_A_mHL (s : State) : Outcome :=
  done 8 (ldRegMem .a s.hl s)

/-- 0x7F, `LD A,A` (R400). -/
def execLD_A_A (s : State) : Outcome :=
  done 4 (ldRegReg .a .a s)

/-- 0xC1, `POP BC` (R423). -/
def execPOP_BC (s : State) : Outcome :=
  done 12 (s.popR16 .bc)

/-- 0xC5, `PUSH BC` (R422). -/
def execPUSH_BC (s : State) : Outcome :=
  done 16 (s.push16 (s.r16Stk .bc))

/-- 0xD1, `POP DE` (R423). -/
def execPOP_DE (s : State) : Outcome :=
  done 12 (s.popR16 .de)

/-- 0xD5, `PUSH DE` (R422). -/
def execPUSH_DE (s : State) : Outcome :=
  done 16 (s.push16 (s.r16Stk .de))

/-- 0xE0, `LDH (a8),A` (R414). -/
def execLDH_ma8_A (a8 : Byte) (s : State) : Outcome :=
  done 12 (s.memWrite (highPage a8) (s.reg .a))

/-- 0xE1, `POP HL` (R423). -/
def execPOP_HL (s : State) : Outcome :=
  done 12 (s.popR16 .hl)

/-- 0xE2, `LDH (C),A` (R412). -/
def execLDH_mC_A (s : State) : Outcome :=
  done 8 (s.memWrite (highPage (s.reg .c)) (s.reg .a))

/-- 0xE5, `PUSH HL` (R422). -/
def execPUSH_HL (s : State) : Outcome :=
  done 16 (s.push16 (s.r16Stk .hl))

/-- 0xEA, `LD (a16),A` (R410). -/
def execLD_ma16_A (a16 : Word) (s : State) : Outcome :=
  done 16 (s.memWrite a16 (s.reg .a))

/-- 0xF0, `LDH A,(a8)` (R413). -/
def execLDH_A_ma8 (a8 : Byte) (s : State) : Outcome :=
  done 12 (ldRegMem .a (highPage a8) s)

/-- 0xF1, `POP AF` (R424). -/
def execPOP_AF (s : State) : Outcome :=
  done 12 (s.popR16 .af)

/-- 0xF2, `LDH A,(C)` (R411). -/
def execLDH_A_mC (s : State) : Outcome :=
  done 8 (ldRegMem .a (highPage (s.reg .c)) s)

/-- 0xF5, `PUSH AF` (R422). -/
def execPUSH_AF (s : State) : Outcome :=
  done 16 (s.push16 (s.r16Stk .af))

/-- 0xF9, `LD SP,HL` (R421). -/
def execLD_SP_HL (s : State) : Outcome :=
  done 8 (s.setR16 .sp s.hl)

/-- 0xFA, `LD A,(a16)` (R409). -/
def execLD_A_ma16 (a16 : Word) (s : State) : Outcome :=
  done 16 (ldRegMem .a a16 s)

end Sys2Proof.Machine
end

