-- ==== Sys2Proof/Machine/Rotate.lean ====
section
/-! DEFINITION. Rotates and shifts (43_rotate_shift_bit.md): the accumulator rotates of the primary table
and group 0 of the secondary table. -/

namespace Sys2Proof.Machine

/-- R300 to R303: an accumulator rotate is the rotate of A with Z forced to 0. -/
def rotateA (op : Rot8) (s : State) : State :=
  let r := rot8 op (s.reg .a) s.flags
  (s.setReg .a r.1).setFlags { r.2 with z := false }

/-! ### The rows -/

/-- 0x07, `RLCA` (R300). -/
def execRLCA (s : State) : Outcome :=
  done 4 (rotateA .rlc s)

/-- 0x0F, `RRCA` (R301). -/
def execRRCA (s : State) : Outcome :=
  done 4 (rotateA .rrc s)

/-- 0x17, `RLA` (R302). -/
def execRLA (s : State) : Outcome :=
  done 4 (rotateA .rl s)

/-- 0x1F, `RRA` (R303). -/
def execRRA (s : State) : Outcome :=
  done 4 (rotateA .rr s)

/-- 0xCB 0x00, `RLC B` (R310). -/
def execRLC_B (s : State) : Outcome :=
  done 8 (modifyOpnd (rot8 .rlc) (.reg .b) s)

/-- 0xCB 0x01, `RLC C` (R310). -/
def execRLC_C (s : State) : Outcome :=
  done 8 (modifyOpnd (rot8 .rlc) (.reg .c) s)

/-- 0xCB 0x02, `RLC D` (R310). -/
def execRLC_D (s : State) : Outcome :=
  done 8 (modifyOpnd (rot8 .rlc) (.reg .d) s)

/-- 0xCB 0x03, `RLC E` (R310). -/
def execRLC_E (s : State) : Outcome :=
  done 8 (modifyOpnd (rot8 .rlc) (.reg .e) s)

/-- 0xCB 0x04, `RLC H` (R310). -/
def execRLC_H (s : State) : Outcome :=
  done 8 (modifyOpnd (rot8 .rlc) (.reg .h) s)

/-- 0xCB 0x05, `RLC L` (R310). -/
def execRLC_L (s : State) : Outcome :=
  done 8 (modifyOpnd (rot8 .rlc) (.reg .l) s)

/-- 0xCB 0x06, `RLC (HL)` (R311). -/
def execRLC_mHL (s : State) : Outcome :=
  done 16 (modifyOpnd (rot8 .rlc) .hl s)

/-- 0xCB 0x07, `RLC A` (R310). -/
def execRLC_A (s : State) : Outcome :=
  done 8 (modifyOpnd (rot8 .rlc) (.reg .a) s)

/-- 0xCB 0x08, `RRC B` (R312). -/
def execRRC_B (s : State) : Outcome :=
  done 8 (modifyOpnd (rot8 .rrc) (.reg .b) s)

/-- 0xCB 0x09, `RRC C` (R312). -/
def execRRC_C (s : State) : Outcome :=
  done 8 (modifyOpnd (rot8 .rrc) (.reg .c) s)

/-- 0xCB 0x0A, `RRC D` (R312). -/
def execRRC_D (s : State) : Outcome :=
  done 8 (modifyOpnd (rot8 .rrc) (.reg .d) s)

/-- 0xCB 0x0B, `RRC E` (R312). -/
def execRRC_E (s : State) : Outcome :=
  done 8 (modifyOpnd (rot8 .rrc) (.reg .e) s)

/-- 0xCB 0x0C, `RRC H` (R312). -/
def execRRC_H (s : State) : Outcome :=
  done 8 (modifyOpnd (rot8 .rrc) (.reg .h) s)

/-- 0xCB 0x0D, `RRC L` (R312). -/
def execRRC_L (s : State) : Outcome :=
  done 8 (modifyOpnd (rot8 .rrc) (.reg .l) s)

/-- 0xCB 0x0E, `RRC (HL)` (R313). -/
def execRRC_mHL (s : State) : Outcome :=
  done 16 (modifyOpnd (rot8 .rrc) .hl s)

/-- 0xCB 0x0F, `RRC A` (R312). -/
def execRRC_A (s : State) : Outcome :=
  done 8 (modifyOpnd (rot8 .rrc) (.reg .a) s)

/-- 0xCB 0x10, `RL B` (R314). -/
def execRL_B (s : State) : Outcome :=
  done 8 (modifyOpnd (rot8 .rl) (.reg .b) s)

/-- 0xCB 0x11, `RL C` (R314). -/
def execRL_C (s : State) : Outcome :=
  done 8 (modifyOpnd (rot8 .rl) (.reg .c) s)

/-- 0xCB 0x12, `RL D` (R314). -/
def execRL_D (s : State) : Outcome :=
  done 8 (modifyOpnd (rot8 .rl) (.reg .d) s)

/-- 0xCB 0x13, `RL E` (R314). -/
def execRL_E (s : State) : Outcome :=
  done 8 (modifyOpnd (rot8 .rl) (.reg .e) s)

/-- 0xCB 0x14, `RL H` (R314). -/
def execRL_H (s : State) : Outcome :=
  done 8 (modifyOpnd (rot8 .rl) (.reg .h) s)

/-- 0xCB 0x15, `RL L` (R314). -/
def execRL_L (s : State) : Outcome :=
  done 8 (modifyOpnd (rot8 .rl) (.reg .l) s)

/-- 0xCB 0x16, `RL (HL)` (R315). -/
def execRL_mHL (s : State) : Outcome :=
  done 16 (modifyOpnd (rot8 .rl) .hl s)

/-- 0xCB 0x17, `RL A` (R314). -/
def execRL_A (s : State) : Outcome :=
  done 8 (modifyOpnd (rot8 .rl) (.reg .a) s)

/-- 0xCB 0x18, `RR B` (R316). -/
def execRR_B (s : State) : Outcome :=
  done 8 (modifyOpnd (rot8 .rr) (.reg .b) s)

/-- 0xCB 0x19, `RR C` (R316). -/
def execRR_C (s : State) : Outcome :=
  done 8 (modifyOpnd (rot8 .rr) (.reg .c) s)

/-- 0xCB 0x1A, `RR D` (R316). -/
def execRR_D (s : State) : Outcome :=
  done 8 (modifyOpnd (rot8 .rr) (.reg .d) s)

/-- 0xCB 0x1B, `RR E` (R316). -/
def execRR_E (s : State) : Outcome :=
  done 8 (modifyOpnd (rot8 .rr) (.reg .e) s)

/-- 0xCB 0x1C, `RR H` (R316). -/
def execRR_H (s : State) : Outcome :=
  done 8 (modifyOpnd (rot8 .rr) (.reg .h) s)

/-- 0xCB 0x1D, `RR L` (R316). -/
def execRR_L (s : State) : Outcome :=
  done 8 (modifyOpnd (rot8 .rr) (.reg .l) s)

/-- 0xCB 0x1E, `RR (HL)` (R317). -/
def execRR_mHL (s : State) : Outcome :=
  done 16 (modifyOpnd (rot8 .rr) .hl s)

/-- 0xCB 0x1F, `RR A` (R316). -/
def execRR_A (s : State) : Outcome :=
  done 8 (modifyOpnd (rot8 .rr) (.reg .a) s)

/-- 0xCB 0x20, `SLA B` (R318). -/
def execSLA_B (s : State) : Outcome :=
  done 8 (modifyOpnd (rot8 .sla) (.reg .b) s)

/-- 0xCB 0x21, `SLA C` (R318). -/
def execSLA_C (s : State) : Outcome :=
  done 8 (modifyOpnd (rot8 .sla) (.reg .c) s)

/-- 0xCB 0x22, `SLA D` (R318). -/
def execSLA_D (s : State) : Outcome :=
  done 8 (modifyOpnd (rot8 .sla) (.reg .d) s)

/-- 0xCB 0x23, `SLA E` (R318). -/
def execSLA_E (s : State) : Outcome :=
  done 8 (modifyOpnd (rot8 .sla) (.reg .e) s)

/-- 0xCB 0x24, `SLA H` (R318). -/
def execSLA_H (s : State) : Outcome :=
  done 8 (modifyOpnd (rot8 .sla) (.reg .h) s)

/-- 0xCB 0x25, `SLA L` (R318). -/
def execSLA_L (s : State) : Outcome :=
  done 8 (modifyOpnd (rot8 .sla) (.reg .l) s)

/-- 0xCB 0x26, `SLA (HL)` (R319). -/
def execSLA_mHL (s : State) : Outcome :=
  done 16 (modifyOpnd (rot8 .sla) .hl s)

/-- 0xCB 0x27, `SLA A` (R318). -/
def execSLA_A (s : State) : Outcome :=
  done 8 (modifyOpnd (rot8 .sla) (.reg .a) s)

/-- 0xCB 0x28, `SRA B` (R320). -/
def execSRA_B (s : State) : Outcome :=
  done 8 (modifyOpnd (rot8 .sra) (.reg .b) s)

/-- 0xCB 0x29, `SRA C` (R320). -/
def execSRA_C (s : State) : Outcome :=
  done 8 (modifyOpnd (rot8 .sra) (.reg .c) s)

/-- 0xCB 0x2A, `SRA D` (R320). -/
def execSRA_D (s : State) : Outcome :=
  done 8 (modifyOpnd (rot8 .sra) (.reg .d) s)

/-- 0xCB 0x2B, `SRA E` (R320). -/
def execSRA_E (s : State) : Outcome :=
  done 8 (modifyOpnd (rot8 .sra) (.reg .e) s)

/-- 0xCB 0x2C, `SRA H` (R320). -/
def execSRA_H (s : State) : Outcome :=
  done 8 (modifyOpnd (rot8 .sra) (.reg .h) s)

/-- 0xCB 0x2D, `SRA L` (R320). -/
def execSRA_L (s : State) : Outcome :=
  done 8 (modifyOpnd (rot8 .sra) (.reg .l) s)

/-- 0xCB 0x2E, `SRA (HL)` (R321). -/
def execSRA_mHL (s : State) : Outcome :=
  done 16 (modifyOpnd (rot8 .sra) .hl s)

/-- 0xCB 0x2F, `SRA A` (R320). -/
def execSRA_A (s : State) : Outcome :=
  done 8 (modifyOpnd (rot8 .sra) (.reg .a) s)

/-- 0xCB 0x30, `SWAP B` (R322). -/
def execSWAP_B (s : State) : Outcome :=
  done 8 (modifyOpnd (rot8 .swap) (.reg .b) s)

/-- 0xCB 0x31, `SWAP C` (R322). -/
def execSWAP_C (s : State) : Outcome :=
  done 8 (modifyOpnd (rot8 .swap) (.reg .c) s)

/-- 0xCB 0x32, `SWAP D` (R322). -/
def execSWAP_D (s : State) : Outcome :=
  done 8 (modifyOpnd (rot8 .swap) (.reg .d) s)

/-- 0xCB 0x33, `SWAP E` (R322). -/
def execSWAP_E (s : State) : Outcome :=
  done 8 (modifyOpnd (rot8 .swap) (.reg .e) s)

/-- 0xCB 0x34, `SWAP H` (R322). -/
def execSWAP_H (s : State) : Outcome :=
  done 8 (modifyOpnd (rot8 .swap) (.reg .h) s)

/-- 0xCB 0x35, `SWAP L` (R322). -/
def execSWAP_L (s : State) : Outcome :=
  done 8 (modifyOpnd (rot8 .swap) (.reg .l) s)

/-- 0xCB 0x36, `SWAP (HL)` (R323). -/
def execSWAP_mHL (s : State) : Outcome :=
  done 16 (modifyOpnd (rot8 .swap) .hl s)

/-- 0xCB 0x37, `SWAP A` (R322). -/
def execSWAP_A (s : State) : Outcome :=
  done 8 (modifyOpnd (rot8 .swap) (.reg .a) s)

/-- 0xCB 0x38, `SRL B` (R324). -/
def execSRL_B (s : State) : Outcome :=
  done 8 (modifyOpnd (rot8 .srl) (.reg .b) s)

/-- 0xCB 0x39, `SRL C` (R324). -/
def execSRL_C (s : State) : Outcome :=
  done 8 (modifyOpnd (rot8 .srl) (.reg .c) s)

/-- 0xCB 0x3A, `SRL D` (R324). -/
def execSRL_D (s : State) : Outcome :=
  done 8 (modifyOpnd (rot8 .srl) (.reg .d) s)

/-- 0xCB 0x3B, `SRL E` (R324). -/
def execSRL_E (s : State) : Outcome :=
  done 8 (modifyOpnd (rot8 .srl) (.reg .e) s)

/-- 0xCB 0x3C, `SRL H` (R324). -/
def execSRL_H (s : State) : Outcome :=
  done 8 (modifyOpnd (rot8 .srl) (.reg .h) s)

/-- 0xCB 0x3D, `SRL L` (R324). -/
def execSRL_L (s : State) : Outcome :=
  done 8 (modifyOpnd (rot8 .srl) (.reg .l) s)

/-- 0xCB 0x3E, `SRL (HL)` (R325). -/
def execSRL_mHL (s : State) : Outcome :=
  done 16 (modifyOpnd (rot8 .srl) .hl s)

/-- 0xCB 0x3F, `SRL A` (R324). -/
def execSRL_A (s : State) : Outcome :=
  done 8 (modifyOpnd (rot8 .srl) (.reg .a) s)

end Sys2Proof.Machine
end

