-- ==== Sys2Proof/Machine/Prefix.lean ====
section
/-! DEFINITION. The row PREFIX (R565): the byte after 0xCB selects an entry of the secondary table by its
fields (R128), and that entry runs in the same step. -/

namespace Sys2Proof.Machine

/-- R730: the cost of a prefixed instruction, which counts both bytes (R157): 8 on a register, `mem` on
(HL). -/
def prefixedCost (o : Opnd8) (mem : Nat) : Nat :=
  match o with
  | .reg _ => 8
  | .hl => mem

/-- 0xCB op2, `PREFIX` (R565): group `x`, operation or bit `y`, operand `z` (R128). -/
def execPREFIX (op2 : Byte) (s : State) : Outcome :=
  let o := opndOfField (fieldZ op2)
  let b := indexOfField (fieldY op2)
  match (fieldX op2).toNat with
  | 0 => done (prefixedCost o 16) (modifyOpnd (rot8 (rotOfField (fieldY op2))) o s)
  | 1 => done (prefixedCost o 12) (testBit b o s)
  | 2 => done (prefixedCost o 16) (changeBit false b o s)
  | _ => done (prefixedCost o 16) (changeBit true b o s)

end Sys2Proof.Machine
end

