-- ==== Sys2Proof/Machine/System.lean ====
section
/-! DEFINITION. System and control instructions (46_system.md). -/

namespace Sys2Proof.Machine

/-- R561: terminal mode halts. In hardware mode a request with IME = 0 keeps the core running, and sets
the HALT bug unless an EI is pending (R621). -/
def halt (s : State) : State :=
  match s.params.haltMode with
  | .terminal => s.setRun .halted
  | .hardware =>
    if s.irq ≠ 0 ∧ s.cpu.ime = false ∧ s.cpu.imePending = false then s.setHaltBug true
    else if s.irq ≠ 0 ∧ s.cpu.ime = false then s
    else s.setRun .halted

/-- R562: STOP halts in either mode; its second byte is fetched and ignored. -/
def stop (s : State) : State :=
  s.setRun .halted

/-- R563. -/
def di (s : State) : State :=
  s.setIme false false

/-- R564: IME itself changes at the end of the next instruction (R156). -/
def ei (s : State) : State :=
  if s.cpu.ime = false then s.setIme false true else s

/-! ### The rows -/

/-- 0x00, `NOP` (R560). -/
def execNOP (s : State) : Outcome :=
  done 4 s

/-- 0x10, `STOP` (R562). -/
def execSTOP (_ignored : Byte) (s : State) : Outcome :=
  done 4 (stop s)

/-- 0x76, `HALT` (R561). -/
def execHALT (s : State) : Outcome :=
  done 4 (halt s)

/-- 0xF3, `DI` (R563). -/
def execDI (s : State) : Outcome :=
  done 4 (di s)

/-- 0xFB, `EI` (R564). -/
def execEI (s : State) : Outcome :=
  done 4 (ei s)

end Sys2Proof.Machine
end

