-- ==== Sys2Proof/Machine/Fetch.lean ====
section
/-! DEFINITION. The fetch and decode part of a step in Running (R151 to R154). -/

namespace Sys2Proof.Machine

open Sys2Proof.Config

/-- What the fetch of a step gives: an instruction, with pc past it, or an UnimplementedOpcode record. In
either case the state after the bus reads made. -/
inductive Fetched where
  | instr (i : Instr) (s : State)
  | unimplemented (rec : FaultRecord) (s : State)
  deriving DecidableEq, Repr

/-- R151, R153, R154: one opcode fetch; a row that is not admitted stops before any further fetch; then
the bytes the opcode's length asks for, and decode. A prefixed row is admitted under its own name after
its second byte is fetched. -/
def State.fetchInstr (s : State) : Fetched :=
  let r := s.fetchOpcode
  let op := r.1
  if admits s.params { secondary := false, byte := op } then
    let q := r.2.fetchBytes (opLength op - 1)
    match decode (op :: q.1) with
    | .error _ => .unimplemented { addr := s.pc, opcode := op, prefixed := false, opcode2 := 0 } q.2
    | .ok (i, _) =>
      if op = 0xCB ∧ admits s.params { secondary := true, byte := q.1.headD 0 } = false then
        .unimplemented { addr := s.pc, opcode := op, prefixed := true, opcode2 := q.1.headD 0 } q.2
      else .instr i q.2
  else .unimplemented { addr := s.pc, opcode := op, prefixed := false, opcode2 := 0 } r.2

/-- The bytes of one instruction stored from `a` on (wrapping, R86). -/
def storeBytes (m : Memory) (a : Word) (bs : List Byte) : Memory :=
  match bs with
  | [] => m
  | v :: t => storeBytes (Memory.write m a.toNat v) (a + 1) t

/-- The parameters with the rows named `rs` admitted. -/
def admitting (p : Params) (rs : List Row) : Params :=
  match p.admitted with
  | .every => p
  | .only rows => { p with admitted := .only (rs ++ rows) }

/-- The state in which the next step fetches the three bytes `bs`: they stand at pc, a read answers from
memory, the core is Running with no HALT bug pending, no interrupt comes first, and the rows are
admitted. -/
def State.placed (s : State) (bs : List Byte) : State :=
  { s with
    cpu := { s.cpu with run := .running, haltBug := false }
    bus := { s.bus with mem := storeBytes s.bus.mem s.pc bs, answers := [] }
    irqs := if s.cpu.ime then 0 :: s.irqs.tail else s.irqs
    params := admitting s.params
      [{ secondary := false, byte := bs.getD 0 0 }, { secondary := true, byte := bs.getD 1 0 }] }

end Sys2Proof.Machine
end

