-- ==== Sys2Proof/Machine/Engine.lean ====
section
/-! DEFINITION. The execution engine (30_encoding.md section 7): one step in each run state. -/

namespace Sys2Proof.Machine

/-- A step begins with no access recorded. -/
def State.beginStep (s : State) : State :=
  { s with bus := { s.bus with log := [] } }

/-- A step ends: the request input moves on to the next step's value. -/
def State.endStep (s : State) : State :=
  { s with irqs := s.irqs.tail }

/-- The end of the step for an instruction's answer: EI promotion (R156), and the input moves on. -/
def finish (promote : Bool) (o : Outcome) : Outcome :=
  match o with
  | .next t => .next (t.promoteIme promote).endStep
  | .fault r => .fault r
  | .refused r => .refused r

/-- R151 without the interrupt check: fetch and decode, then execute or enter Faulted. -/
def runInstruction (s : State) : Outcome :=
  match s.fetchInstr with
  | .unimplemented rec t => .next (t.enterFaulted s.cpu rec).endStep
  | .instr i t => finish s.cpu.imePending (exec i t)

/-- R151: a step in Running. -/
def runRunning (s : State) : Outcome :=
  if s.takesInterrupt then .next s.interruptEntry.endStep else runInstruction s

/-- R159, R620: a step in Halted. Terminal mode makes no progress. Hardware mode idles without a request
and wakes with one, whether or not IME is 1, into the Running step. -/
def runHalted (s : State) : Outcome :=
  match s.params.haltMode with
  | .terminal => .next (s.report (.halted 0)).endStep
  | .hardware =>
    if s.irq = 0 then
      let n := inUnit s.params.cycleUnit 4
      .next ((s.addCycles n).report (.halted n)).endStep
    else runRunning (s.setRun .running)

/-- R150, R616: the step dispatches on the run state. R158: in Faulted it gives the fault signal again. -/
def runStep (s : State) : Outcome :=
  match s.cpu.run with
  | .faulted rec => .fault (.unimplementedOpcode rec)
  | .halted => runHalted s.beginStep
  | .running => runRunning s.beginStep

end Sys2Proof.Machine
end

