-- ==== Sys2Proof/Machine/Step.lean ====
section
/-! DEFINITION. The step of the machine, and the placing of one instruction where it fetches next. -/

namespace Sys2Proof.Machine

/-- R150: `step()`. -/
def step (s : State) : Host.Outcome State Fault Refusal := runStep s

/-- `s` with the instruction whose bits are `w` (numbered as spec/opcode_table.json numbers them) where
the next step fetches it. -/
def State.withFetchWord (s : State) (nbits w : Nat) : State :=
  s.placed (tableBytes nbits w)

end Sys2Proof.Machine
end

