-- ==== Sys2Proof/WellFormed.lean ====
section
/-! DEFINITION. Which terms of `Instr` name a whole instruction of the machine. Operand widths are fixed
by their types, so one check is left: 0xCB with its second byte is the instruction of the secondary
table (R151, R565), so a bare `PREFIX` term is not the canonical term of any bytes. -/

namespace Sys2Proof

/-- R565: every term but `PREFIX`, whose bytes are those of the secondary row it selects. -/
def Instr.wellFormed (i : Instr) : Bool :=
  match i with
  | .PREFIX _ => false
  | _ => true

end Sys2Proof
end

