-- ==== Sys2Proof/Safety.lean ====
section
/-! DEFINITION. What a safe state is, in the terms the statements use: the invariants the spec gives for
every reachable state. -/

namespace Sys2Proof.Machine

open Sys2Proof.Config

/-- R32: "the flag register's low nibble is always zero". -/
abbrev State.FlagsLowNibbleZero (s : State) : Prop := s.cpu.f.extractLsb' 0 4 = 0

/-- R41, R42, R621: no enable is pending while IME is 1; the HALT-bug latch is set only in hardware mode,
with IME = 0, no enable pending and the core not Halted. -/
abbrev State.LatchesOk (s : State) : Prop :=
  ¬(s.cpu.ime = true ∧ s.cpu.imePending = true) ∧
  (s.cpu.haltBug = true → s.params.haltMode = .hardware ∧ s.cpu.ime = false ∧
    s.cpu.imePending = false ∧ s.cpu.run ≠ .halted)

/-- R45, R601: a fault record names pc, and its second byte is 0 unless the opcode was 0xCB's. -/
def Cpu.recordOk (u : Cpu) : Bool :=
  match u.run with
  | .running => true
  | .halted => true
  | .faulted rec => rec.addr == u.pc && (if rec.prefixed then rec.opcode == 0xCB else rec.opcode2 == 0)

/-- The invariant of the machine: every step keeps it. -/
abbrev State.Inv (s : State) : Prop :=
  s.FlagsLowNibbleZero ∧ s.LatchesOk ∧ s.cpu.recordOk = true ∧ s.bus.mem.Wf

/-- R43, R622: the core can still make progress: it is not Faulted. -/
abbrev State.Live (s : State) : Prop := s.cpu.fault = none

end Sys2Proof.Machine
end

