-- ==== Sys2Proof/Certificates/Slice0/Obligations.lean ====
section
/-! DEFINITION. The statements for the provers. `Claims` holds the spec's own formulas, written over
natural numbers and integers and apart from the functions the meanings call; then one statement per
group of rules. A statement of an instruction's effect names the whole next state, so it states the
instruction's completion and its frame at once: whatever the state on the right does not change, the
instruction leaves as it was. `exec i s` takes `s` with pc past the instruction (R16). -/

namespace Sys2Proof.Claims

open Sys2Proof.Machine Sys2Proof.Config

/-! ### Field numbers (R121 to R128) -/

/-- R122. -/
def r8Number : Opnd8 → Nat
  | .reg .b => 0
  | .reg .c => 1
  | .reg .d => 2
  | .reg .e => 3
  | .reg .h => 4
  | .reg .l => 5
  | .hl => 6
  | .reg .a => 7

/-- R123. -/
def r16Number : R16 → Nat
  | .bc => 0
  | .de => 1
  | .hl => 2
  | .sp => 3

/-- R124. -/
def stkNumber : R16Stk → Nat
  | .bc => 0
  | .de => 1
  | .hl => 2
  | .af => 3

/-- R125. -/
def memNumber : R16Mem → Nat
  | .bc => 0
  | .de => 1
  | .hli => 2
  | .hld => 3

/-- R126. -/
def ccNumber : Cond → Nat
  | .nz => 0
  | .z => 1
  | .nc => 2
  | .c => 3

/-- R128. -/
def rotNumber : Rot8 → Nat
  | .rlc => 0
  | .rrc => 1
  | .rl => 2
  | .rr => 3
  | .sla => 4
  | .sra => 5
  | .swap => 6
  | .srl => 7

/-- A byte from its number. -/
def byte (n : Nat) : Byte := BitVec.ofNat 8 n

/-! ### The effect of an instruction -/

/-- R157, D11: a T-cycle figure in the unit of the machine. -/
def figure (s : State) (n : Nat) : Nat :=
  match s.params.cycleUnit with
  | .T => n
  | .M => n / 4

/-- R157, R150: `t`, with the cost of `n` T-cycles added and returned. -/
def completed (n : Nat) (t : State) : Host.Outcome State Fault Refusal :=
  .next { t with
    cpu := { t.cpu with cycles := t.cpu.cycles + figure t n }, out := .executed (figure t n) }

/-- R32, R205: F with the four flags written and the low nibble kept. -/
def fByte (old : Byte) (z n h c : Bool) : Byte :=
  byte (128 * z.toNat + 64 * n.toNat + 32 * h.toNat + 16 * c.toNat + old.toNat % 16)

/-- R205: `fZ, fN, fH, fC <- z, n, h, c`. -/
def withFlags (s : State) (z n h c : Bool) : State :=
  { s with cpu := { s.cpu with f := fByte s.cpu.f z n h c } }

/-- `x[A] <- a` and the four flags. -/
def withA (s : State) (a : Byte) (z n h c : Bool) : State :=
  { s with cpu := { s.cpu with a := a, f := fByte s.cpu.f z n h c } }

/-- The carry flag as a number. -/
def carry (s : State) : Nat := (s.cpu.f.getLsbD 4).toNat

/-- R204, R305: the value of an r8 operand: the register, or what the bus answers at HL. -/
def operand (s : State) (o : Opnd8) : Byte :=
  match o with
  | .reg r => s.reg r
  | .hl => s.bus.answer s.hl

/-- R204, R305: the state after the operand is read: one bus read for (HL), none for a register. -/
def afterOperand (s : State) (o : Opnd8) : State :=
  match o with
  | .reg _ => s
  | .hl => { s with bus := s.bus.afterRead s.hl }

/-- R305: the operand written: the register, or one bus write at HL. -/
def writeBack (s : State) (o : Opnd8) (v : Byte) : State :=
  match o with
  | .reg r => s.setReg r v
  | .hl => { s with bus := s.bus.afterWrite s.hl v }

/-- The figure of a row on an r8 operand (R730). -/
def onOperand (o : Opnd8) (onReg onMem : Nat) : Nat :=
  match o with
  | .reg _ => onReg
  | .hl => onMem

/-- R200: A plus `v` plus `cin`. -/
def addToA (s : State) (v : Byte) (cin : Nat) : State :=
  let r := s.cpu.a.toNat + v.toNat + cin
  withA s (byte r) (decide (r % 256 = 0)) false
    (decide (s.cpu.a.toNat % 16 + v.toNat % 16 + cin > 15)) (decide (r > 255))

/-- R201: A minus `v` minus `cin`, as a byte. -/
def difference (s : State) (v : Byte) (cin : Nat) : Byte :=
  BitVec.ofInt 8 ((s.cpu.a.toNat : Int) - v.toNat - cin)

/-- R201: the subtraction with its result in `a`. -/
def subFromA (s : State) (v : Byte) (cin : Nat) (a : Byte) : State :=
  withA s a (decide (((s.cpu.a.toNat : Int) - v.toNat - cin) % 256 = 0)) true
    (decide (s.cpu.a.toNat % 16 < v.toNat % 16 + cin)) (decide (s.cpu.a.toNat < v.toNat + cin))

/-- R202, R203: a logic result with its flags. -/
def logicToA (s : State) (res : Byte) (h : Bool) : State :=
  withA s res (decide (res.toNat = 0)) false h false

/-- R310 to R325: the result of a rotate or shift of `v` with carry `c`, as a number. -/
def rotNat (op : Rot8) (v c : Nat) : Nat :=
  match op with
  | .rlc => 2 * v % 256 + v / 128
  | .rrc => v / 2 + 128 * (v % 2)
  | .rl => 2 * v % 256 + c
  | .rr => v / 2 + 128 * c
  | .sla => 2 * v % 256
  | .sra => v / 2 + 128 * (v / 128)
  | .swap => 16 * (v % 16) + v / 16
  | .srl => v / 2

/-- R310 to R325: the carry a rotate or shift leaves. -/
def rotOut (op : Rot8) (v : Nat) : Bool :=
  match op with
  | .rlc => decide (128 ≤ v)
  | .rl => decide (128 ≤ v)
  | .sla => decide (128 ≤ v)
  | .rrc => decide (v % 2 = 1)
  | .rr => decide (v % 2 = 1)
  | .sra => decide (v % 2 = 1)
  | .srl => decide (v % 2 = 1)
  | .swap => false

/-- R310 to R325: a rotate or shift of an r8 operand. -/
def rotated (s : State) (op : Rot8) (o : Opnd8) : State :=
  let v := (operand s o).toNat
  let r := rotNat op v (carry s)
  withFlags (writeBack (afterOperand s o) o (byte r)) (decide (r = 0)) false false (rotOut op v)

/-- R330, R328: a byte with one bit set, or cleared, by arithmetic on its number. -/
def bitOf (v : Byte) (b : B3) : Bool := decide (v.toNat / 2 ^ b.toNat % 2 = 1)

/-- R430: `push16(v)`. -/
def pushed (s : State) (v : Word) : State :=
  { s with
    cpu := { s.cpu with sp := s.cpu.sp - 2 }
    bus := (s.bus.afterWrite (s.cpu.sp - 1) (byte (v.toNat / 256))).afterWrite (s.cpu.sp - 2)
      (byte v.toNat) }

/-- R431: the value `pop16()` returns: the first byte read is the low one. -/
def popValue (s : State) : Word :=
  BitVec.ofNat 16 (256 * ((s.bus.afterRead s.cpu.sp).answer (s.cpu.sp + 1)).toNat +
    (s.bus.answer s.cpu.sp).toNat)

/-- R431: the state `pop16()` leaves. -/
def popped (s : State) : State :=
  { s with
    cpu := { s.cpu with sp := s.cpu.sp + 2 }
    bus := (s.bus.afterRead s.cpu.sp).afterRead (s.cpu.sp + 1) }

/-- `pc <- t`. -/
def jumped (s : State) (t : Word) : State := { s with cpu := { s.cpu with pc := t } }

/-- R504: the target of a relative jump. -/
def relative (s : State) (e : Byte) : Word := BitVec.ofInt 16 ((s.cpu.pc.toNat : Int) + e.toInt)

/-- R500: whether a condition holds. -/
def taken (s : State) (cc : Cond) : Bool :=
  match cc with
  | .nz => !(s.cpu.f.getLsbD 7)
  | .z => s.cpu.f.getLsbD 7
  | .nc => !(s.cpu.f.getLsbD 4)
  | .c => s.cpu.f.getLsbD 4

/-- R261: `SP + e8`, the displacement signed. -/
def spPlus (s : State) (e : Byte) : Word := BitVec.ofInt 16 ((s.cpu.sp.toNat : Int) + e.toInt)

/-- R261: the flags of `SP + e8`, the displacement unsigned. -/
def spFlags (s : State) (e : Byte) : State :=
  withFlags s false false (decide (s.cpu.sp.toNat % 16 + e.toNat % 16 > 15))
    (decide (s.cpu.sp.toNat % 256 + e.toNat > 255))

/-- A byte in packed BCD. -/
def bcd (n : Nat) : Byte := byte (16 * (n / 10) + n % 10)

/-! ### The bytes a step fetches -/

/-- The bus answers reads at `a`, `a + 1`, ... with these bytes. -/
def supplies (u : Bus) (a : Word) (bs : List Byte) : Bool :=
  match bs with
  | [] => true
  | v :: t => u.answer a == v && supplies (u.afterRead a) (a + 1) t

/-- The bus after those reads. -/
def afterSupply (u : Bus) (a : Word) (bs : List Byte) : Bus :=
  match bs with
  | [] => u
  | _ :: t => afterSupply (u.afterRead a) (a + 1) t

/-- The bus at the start of a step, with no access recorded. -/
def freshBus (s : State) : Bus := { s.bus with log := [] }

/-- R612: a Running step takes an interrupt. -/
def interrupted (s : State) : Prop := s.cpu.ime = true ∧ s.irqs.headD 0 ≠ 0

/-- R160: the rows of an instruction's bytes are admitted: its opcode, and behind 0xCB the second byte. -/
def rowsAdmitted (p : Params) (bs : List Byte) : Prop :=
  admits p { secondary := false, byte := bs.headD 0 } = true ∧
  (bs.headD 0 = 0xCB → admits p { secondary := true, byte := bs.getD 1 0 } = true)

/-- R156 and the end of a step: a pending enable that was pending at the step's start is granted, and
the request input moves on, which is the model's choice (assumption 3). -/
def ended (promote : Bool) (o : Host.Outcome State Fault Refusal) :
    Host.Outcome State Fault Refusal :=
  match o with
  | .next t =>
    .next { t with
      cpu := { t.cpu with
        ime := t.cpu.ime || (promote && t.cpu.imePending)
        imePending := t.cpu.imePending && !promote }
      irqs := t.irqs.tail }
  | .fault r => .fault r
  | .refused r => .refused r

/-- R135: the eleven unfilled opcodes. -/
def unfilled : List Byte :=
  [0xD3, 0xDB, 0xDD, 0xE3, 0xE4, 0xEB, 0xEC, 0xED, 0xF4, 0xFC, 0xFD]

/-! ### Tables of the spec -/

/-- R730: opcodes of the primary table, their taken figure and their not-taken figure. -/
def costTable : List (List Nat × Nat × Nat) :=
  [([0x00, 0x76, 0xF3, 0xFB, 0x27, 0x2F, 0x37, 0x3F, 0x07, 0x0F, 0x17, 0x1F, 0xE9, 0x10], 4, 4),
   ([0x06, 0x0E, 0x16, 0x1E, 0x26, 0x2E, 0x3E], 8, 8),
   ([0x36], 12, 12),
   ([0x0A, 0x1A, 0x02, 0x12, 0x2A, 0x3A, 0x22, 0x32, 0xF2, 0xE2], 8, 8)] ++
  [([0xF0, 0xE0], 12, 12),
   ([0xFA, 0xEA], 16, 16),
   ([0x01, 0x11, 0x21, 0x31], 12, 12),
   ([0x08], 20, 20),
   ([0xF9], 8, 8),
   ([0xC5, 0xD5, 0xE5, 0xF5], 16, 16),
   ([0xC1, 0xD1, 0xE1, 0xF1], 12, 12),
   ([0xF8], 12, 12)] ++
  [([0xC6, 0xCE, 0xD6, 0xDE, 0xE6, 0xEE, 0xF6, 0xFE], 8, 8),
   ([0x34, 0x35], 12, 12),
   ([0x04, 0x0C, 0x14, 0x1C, 0x24, 0x2C, 0x3C, 0x05, 0x0D, 0x15, 0x1D, 0x25, 0x2D, 0x3D], 4, 4),
   ([0x09, 0x19, 0x29, 0x39, 0x03, 0x13, 0x23, 0x33, 0x0B, 0x1B, 0x2B, 0x3B], 8, 8),
   ([0xE8], 16, 16)] ++
  [([0xC3], 16, 16),
   ([0xC2, 0xCA, 0xD2, 0xDA], 16, 12),
   ([0x18], 12, 12),
   ([0x20, 0x28, 0x30, 0x38], 12, 8),
   ([0xCD], 24, 24),
   ([0xC4, 0xCC, 0xD4, 0xDC], 24, 12),
   ([0xC9, 0xD9], 16, 16),
   ([0xC0, 0xC8, 0xD0, 0xD8], 20, 8),
   ([0xC7, 0xCF, 0xD7, 0xDF, 0xE7, 0xEF, 0xF7, 0xFF], 16, 16)]

/-- R730: the figure of an instruction from its bytes: the blocks `LD r,r'` and `ALU A,r` and the
prefixed rows by their fields, every other row from the table. -/
def cost (bs : List Byte) (isTaken : Bool) : Nat :=
  let op := (bs.headD 0).toNat
  let op2 := (bs.getD 1 0).toNat
  if op = 0xCB then
    if op2 % 8 = 6 then (if 0x40 ≤ op2 ∧ op2 < 0x80 then 12 else 16) else 8
  else if 0x40 ≤ op ∧ op < 0x80 ∧ op ≠ 0x76 then (if op % 8 = 6 ∨ op / 8 = 14 then 8 else 4)
  else if 0x80 ≤ op ∧ op < 0xC0 then (if op % 8 = 6 then 8 else 4)
  else
    match costTable.find? (fun row => row.1.contains op) with
    | some row => if isTaken then row.2.1 else row.2.2
    | none => 0

/-- R500, R126: whether the instruction with these bytes is taken, for the conditional rows. -/
def opcodeTaken (s : State) (bs : List Byte) : Bool :=
  match (bs.headD 0).toNat / 8 % 4 with
  | 0 => !(s.cpu.f.getLsbD 7)
  | 1 => s.cpu.f.getLsbD 7
  | 2 => !(s.cpu.f.getLsbD 4)
  | _ => s.cpu.f.getLsbD 4

/-- R88: opcodes of the primary table with data accesses, and their reads and writes beyond the fetches:
taken, then not taken. -/
def accessTable : List (List Nat × (Nat × Nat) × (Nat × Nat)) :=
  [([0x0A, 0x1A, 0x2A, 0x3A, 0xF2, 0xF0, 0xFA], (1, 0), (1, 0)),
   ([0x02, 0x12, 0x22, 0x32, 0xE2, 0x36, 0xE0, 0xEA], (0, 1), (0, 1)),
   ([0x08], (0, 2), (0, 2)),
   ([0x34, 0x35], (1, 1), (1, 1)),
   ([0xC5, 0xD5, 0xE5, 0xF5], (0, 2), (0, 2)),
   ([0xC1, 0xD1, 0xE1, 0xF1], (2, 0), (2, 0)),
   ([0xCD], (0, 2), (0, 2)),
   ([0xC4, 0xCC, 0xD4, 0xDC], (0, 2), (0, 0)),
   ([0xC9, 0xD9], (2, 0), (2, 0)),
   ([0xC0, 0xC8, 0xD0, 0xD8], (2, 0), (0, 0)),
   ([0xC7, 0xCF, 0xD7, 0xDF, 0xE7, 0xEF, 0xF7, 0xFF], (0, 2), (0, 2))]

/-- R88: the data reads and writes of an instruction from its bytes. -/
def dataAccesses (bs : List Byte) (isTaken : Bool) : Nat × Nat :=
  let op := (bs.headD 0).toNat
  let op2 := (bs.getD 1 0).toNat
  if op = 0xCB then
    if op2 % 8 = 6 then (if 0x40 ≤ op2 ∧ op2 < 0x80 then (1, 0) else (1, 1)) else (0, 0)
  else if 0x40 ≤ op ∧ op < 0x80 ∧ op ≠ 0x76 then
    if op % 8 = 6 then (1, 0) else if op / 8 = 14 then (0, 1) else (0, 0)
  else if 0x80 ≤ op ∧ op < 0xC0 then (if op % 8 = 6 then (1, 0) else (0, 0))
  else
    match accessTable.find? (fun row => row.1.contains op) with
    | some row => if isTaken then row.2.1 else row.2.2
    | none => (0, 0)

/-- Whether an access is a read. -/
def isRead (x : Access) : Bool :=
  match x with
  | .read _ _ => true
  | .write _ _ => false

/-- 44_load_store.md, 45_control.md, 41_alu8.md, 43_rotate_shift_bit.md: the addresses an instruction
stores to; none for every row not named. -/
def storedAt (i : Instr) (s : State) : List Word :=
  match i with
  | .LD_mBC_A => [s.r16 .bc]
  | .LD_mDE_A => [s.r16 .de]
  | .LD_mHLI_A | .LD_mHLD_A | .LD_mHL_n8 _ | .INC_mHL | .DEC_mHL => [s.hl]
  | .LD_mHL_B | .LD_mHL_C | .LD_mHL_D | .LD_mHL_E | .LD_mHL_H | .LD_mHL_L | .LD_mHL_A => [s.hl]
  | .RLC_mHL | .RRC_mHL | .RL_mHL | .RR_mHL | .SLA_mHL | .SRA_mHL | .SWAP_mHL | .SRL_mHL => [s.hl]
  | .RES_0_mHL | .RES_1_mHL | .RES_2_mHL | .RES_3_mHL => [s.hl]
  | .RES_4_mHL | .RES_5_mHL | .RES_6_mHL | .RES_7_mHL => [s.hl]
  | .SET_0_mHL | .SET_1_mHL | .SET_2_mHL | .SET_3_mHL => [s.hl]
  | .SET_4_mHL | .SET_5_mHL | .SET_6_mHL | .SET_7_mHL => [s.hl]
  | .LD_ma16_A a => [a]
  | .LD_ma16_SP a => [a, a + 1]
  | .LDH_ma8_A n => [highPage n]
  | .LDH_mC_A => [highPage s.cpu.c]
  | .PUSH_BC | .PUSH_DE | .PUSH_HL | .PUSH_AF => [s.cpu.sp - 1, s.cpu.sp - 2]
  | .RST_0x00 | .RST_0x08 | .RST_0x10 | .RST_0x18 => [s.cpu.sp - 1, s.cpu.sp - 2]
  | .RST_0x20 | .RST_0x28 | .RST_0x30 | .RST_0x38 => [s.cpu.sp - 1, s.cpu.sp - 2]
  | .CALL_a16 _ => [s.cpu.sp - 1, s.cpu.sp - 2]
  | .CALL_NZ_a16 _ => if taken s .nz then [s.cpu.sp - 1, s.cpu.sp - 2] else []
  | .CALL_Z_a16 _ => if taken s .z then [s.cpu.sp - 1, s.cpu.sp - 2] else []
  | .CALL_NC_a16 _ => if taken s .nc then [s.cpu.sp - 1, s.cpu.sp - 2] else []
  | .CALL_C_a16 _ => if taken s .c then [s.cpu.sp - 1, s.cpu.sp - 2] else []
  | .PREFIX op2 => if op2.toNat % 8 = 6 ∧ ¬(0x40 ≤ op2.toNat ∧ op2.toNat < 0x80) then [s.hl] else []
  | _ => []

/-- R39: opcodes of the primary table that write no flag: 44_load_store.md but POP AF and LD HL,SP+e8,
45_control.md, 46_system.md, and INC rr and DEC rr. -/
def flagless : List Nat :=
  [0x00, 0x10, 0x76, 0xF3, 0xFB, 0x01, 0x11, 0x21, 0x31, 0x03, 0x13, 0x23, 0x33, 0x0B, 0x1B, 0x2B, 0x3B] ++
  [0x02, 0x12, 0x22, 0x32, 0x0A, 0x1A, 0x2A, 0x3A, 0x06, 0x0E, 0x16, 0x1E, 0x26, 0x2E, 0x36, 0x3E] ++
  [0x08, 0x18, 0x20, 0x28, 0x30, 0x38, 0xC0, 0xC8, 0xD0, 0xD8, 0xC9, 0xD9, 0xC2, 0xCA, 0xD2, 0xDA, 0xC3] ++
  [0xC4, 0xCC, 0xD4, 0xDC, 0xCD, 0xC7, 0xCF, 0xD7, 0xDF, 0xE7, 0xEF, 0xF7, 0xFF, 0xE9, 0xF9] ++
  [0xC1, 0xD1, 0xE1, 0xC5, 0xD5, 0xE5, 0xF5, 0xE0, 0xE2, 0xEA, 0xF0, 0xF2, 0xFA]

/-- R39: the instruction with these bytes writes no flag: the rows above, the block `LD r,r'`, and RES
and SET. -/
def writesNoFlag (bs : List Byte) : Bool :=
  let op := (bs.headD 0).toNat
  if op = 0xCB then decide (0x80 ≤ (bs.getD 1 0).toNat)
  else decide (0x40 ≤ op ∧ op < 0x80) || flagless.contains op

/-- Everything of a state but the cycle count, the unit it is counted in and the last report. -/
def forgetTime (s : State) : State :=
  { s with
    cpu := { s.cpu with cycles := 0 }, params := { s.params with cycleUnit := .T }, out := .none }

/-- Two answers agree but for time. -/
def agree (o p : Host.Outcome State Fault Refusal) : Prop :=
  match o, p with
  | .next t, .next u => forgetTime t = forgetTime u
  | .fault q, .fault r => q = r
  | .refused q, .refused r => q = r
  | _, _ => False

end Sys2Proof.Claims

open Sys2Proof Sys2Proof.Machine Sys2Proof.Config Sys2Proof.Claims

/-! ### Encoding (30_encoding.md) -/

/-- R120, R132 to R134: decoding the bytes of a whole instruction gives it back, with every operand at
every value, whatever bytes follow. -/
def Obligations.DecodeOfEncodeGivesTheInstruction : Prop :=
  ∀ (i : Instr) (rest : List Byte), i.wellFormed = true → decode (encode i ++ rest) = .ok (i, rest)

/-- R120, R132 to R134: whatever the decoder accepts is the encoding of the instruction it answers, with
the rest untouched: no two byte strings stand for one instruction. -/
def Obligations.DecodedBytesAreTheInstructionsEncoding : Prop :=
  ∀ (bs rest : List Byte) (i : Instr), decode bs = .ok (i, rest) →
    i.wellFormed = true ∧ bs = encode i ++ rest

/-- R135: among opcodes with enough bytes behind them, exactly eleven are rejected, by name; and every
byte after 0xCB selects an instruction. -/
def Obligations.ExactlyElevenOpcodesAreUnfilled : Prop :=
  (∀ (op : Byte) (rest : List Byte), 2 ≤ rest.length →
    (decode (op :: rest) = .error (.unimplementedOpcode op) ↔ op ∈ unfilled) ∧
    (op ∉ unfilled → ∃ i, decode (op :: rest) = .ok (i, rest.drop (opLength op - 1)))) ∧
  (∀ (op2 : Byte) (rest : List Byte), ∃ i, decode (0xCB :: op2 :: rest) = .ok (i, rest))

/-- Words of 30_encoding.md, 42_alu16.md and 45_control.md written out, one or more for each family. -/
def Obligations.WordsWrittenInTheSpecDecode : Prop :=
  decode [0x80] = .ok (.ADD_A_B, []) ∧ decode [0xE6, 0x0F] = .ok (.AND_A_n8 0x0F, []) ∧
  decode [0x35] = .ok (.DEC_mHL, []) ∧ decode [0x39] = .ok (.ADD_HL_SP, []) ∧
  decode [0xE8, 0xFF] = .ok (.ADD_SP_e8 0xFF, []) ∧ decode [0x31, 0xFE, 0xFF] = .ok (.LD_SP_n16 0xFFFE, []) ∧
  decode [0x08, 0x00, 0xC1] = .ok (.LD_ma16_SP 0xC100, []) ∧ decode [0xCB, 0x46] = .ok (.BIT_0_mHL, []) ∧
  decode [0xCB, 0x37] = .ok (.SWAP_A, []) ∧ decode [0xCB, 0xFE] = .ok (.SET_7_mHL, []) ∧
  decode [0xC2, 0x00, 0x02] = .ok (.JP_NZ_a16 0x0200, []) ∧ decode [0xEF] = .ok (.RST_0x28, []) ∧
  decode [0x10, 0x00] = .ok (.STOP 0x00, []) ∧ decode [0x76] = .ok (.HALT, [])

/-! ### State, registers and reset (10_state.md, 70_reset_and_hazards.md) -/

/-- R700, R50 to R52: `reset()` in any state gives the core state of the selected profile, in Running,
with no bus access and memory unchanged; construction is the `zero` profile. -/
def Obligations.ResetGivesTheSelectedProfile : Prop :=
  State.reset.cpu =
    { a := 0, f := 0, b := 0, c := 0, d := 0, e := 0, h := 0, l := 0, sp := 0, pc := 0
      ime := false, imePending := false, haltBug := false, run := .running, cycles := 0 } ∧
  State.reset.params.profile = .zero ∧
  ∀ s : State,
    s.driverReset.bus.mem = s.bus.mem ∧ s.driverReset.bus.answers = s.bus.answers ∧
    s.driverReset.bus.log = [] ∧ s.driverReset.params = s.params ∧ s.driverReset.cpu.fault = none ∧
    (s.params.profile = .zero → s.driverReset.cpu = State.reset.cpu) ∧
    (s.params.profile = .dmgPostBoot → s.driverReset.cpu =
      { a := 0x01, f := 0xB0, b := 0x00, c := 0x13, d := 0x00, e := 0xD8, h := 0x01, l := 0x4D
        sp := 0xFFFE, pc := 0x0100, ime := false, imePending := false, haltBug := false
        run := .running, cycles := 0 }) ∧
    ∀ r : Draw, s.params.profile = .draw r → s.driverReset.cpu =
      { a := r.a, f := byte (r.f.toNat / 16 * 16), b := r.b, c := r.c, d := r.d, e := r.e, h := r.h
        l := r.l, sp := r.sp, pc := 0x0000, ime := false, imePending := false, haltBug := false
        run := .running, cycles := 0 }

/-- R33 to R35: a pair reads as `high<<8 | low`, a pair write puts the two bytes of the value into
exactly its two registers, and both round-trip laws hold. -/
def Obligations.PairsReadAndWriteTheirTwoRegisters : Prop :=
  ∀ (s : State) (v : Word),
    (s.r16 .bc).toNat = 256 * s.cpu.b.toNat + s.cpu.c.toNat ∧
    (s.r16 .de).toNat = 256 * s.cpu.d.toNat + s.cpu.e.toNat ∧
    (s.r16 .hl).toNat = 256 * s.cpu.h.toNat + s.cpu.l.toNat ∧
    s.setR16 .bc v = { s with cpu := { s.cpu with b := byte (v.toNat / 256), c := byte v.toNat } } ∧
    s.setR16 .de v = { s with cpu := { s.cpu with d := byte (v.toNat / 256), e := byte v.toNat } } ∧
    s.setR16 .hl v = { s with cpu := { s.cpu with h := byte (v.toNat / 256), l := byte v.toNat } } ∧
    ∀ rr : R16, (s.setR16 rr v).r16 rr = v ∧ s.setR16 rr (s.r16 rr) = s

/-! ### 8-bit arithmetic and logic (41_alu8.md) -/

/-- R200, R210 to R215: ADD and ADC in their register, (HL) and immediate forms, every operand. -/
def Obligations.AddAndAdcAddToA : Prop :=
  ∀ (o : Opnd8) (n : Byte) (s : State),
    encode (aluRow .add o) = [byte (0x80 + r8Number o)] ∧
    encode (aluImmRow .add n) = [0xC6, n] ∧
    encode (aluRow .adc o) = [byte (0x88 + r8Number o)] ∧
    encode (aluImmRow .adc n) = [0xCE, n] ∧
    exec (aluRow .add o) s =
      completed (onOperand o 4 8) (addToA (afterOperand s o) (operand s o) 0) ∧
    exec (aluImmRow .add n) s = completed 8 (addToA s n 0) ∧
    exec (aluRow .adc o) s =
      completed (onOperand o 4 8) (addToA (afterOperand s o) (operand s o) (carry s)) ∧
    exec (aluImmRow .adc n) s = completed 8 (addToA s n (carry s))

/-- R201, R216 to R221, R231 to R233: SUB, SBC and CP in their three forms; CP keeps A. -/
def Obligations.SubSbcAndCpSubtractFromA : Prop :=
  ∀ (o : Opnd8) (n : Byte) (s : State),
    encode (aluRow .sub o) = [byte (0x90 + r8Number o)] ∧
    encode (aluImmRow .sub n) = [0xD6, n] ∧
    encode (aluRow .sbc o) = [byte (0x98 + r8Number o)] ∧
    encode (aluImmRow .sbc n) = [0xDE, n] ∧
    encode (aluRow .cp o) = [byte (0xB8 + r8Number o)] ∧
    encode (aluImmRow .cp n) = [0xFE, n] ∧
    (let v := operand s o
     let t := afterOperand s o
     exec (aluRow .sub o) s = completed (onOperand o 4 8) (subFromA t v 0 (difference s v 0)) ∧
     exec (aluRow .sbc o) s =
       completed (onOperand o 4 8) (subFromA t v (carry s) (difference s v (carry s))) ∧
     exec (aluRow .cp o) s = completed (onOperand o 4 8) (subFromA t v 0 s.cpu.a)) ∧
    exec (aluImmRow .sub n) s = completed 8 (subFromA s n 0 (difference s n 0)) ∧
    exec (aluImmRow .sbc n) s = completed 8 (subFromA s n (carry s) (difference s n (carry s))) ∧
    exec (aluImmRow .cp n) s = completed 8 (subFromA s n 0 s.cpu.a)

/-- R202, R203, R222 to R230: AND sets H, XOR and OR clear it; all clear N and C. -/
def Obligations.AndXorAndOrCombineIntoA : Prop :=
  ∀ (o : Opnd8) (n : Byte) (s : State),
    encode (aluRow .and o) = [byte (0xA0 + r8Number o)] ∧
    encode (aluImmRow .and n) = [0xE6, n] ∧
    encode (aluRow .xor o) = [byte (0xA8 + r8Number o)] ∧
    encode (aluImmRow .xor n) = [0xEE, n] ∧
    encode (aluRow .or o) = [byte (0xB0 + r8Number o)] ∧
    encode (aluImmRow .or n) = [0xF6, n] ∧
    (let v := operand s o
     let t := afterOperand s o
     exec (aluRow .and o) s = completed (onOperand o 4 8) (logicToA t (s.cpu.a &&& v) true) ∧
     exec (aluRow .xor o) s = completed (onOperand o 4 8) (logicToA t (s.cpu.a ^^^ v) false) ∧
     exec (aluRow .or o) s = completed (onOperand o 4 8) (logicToA t (s.cpu.a ||| v) false)) ∧
    exec (aluImmRow .and n) s = completed 8 (logicToA s (s.cpu.a &&& n) true) ∧
    exec (aluImmRow .xor n) s = completed 8 (logicToA s (s.cpu.a ^^^ n) false) ∧
    exec (aluImmRow .or n) s = completed 8 (logicToA s (s.cpu.a ||| n) false)

/-- R234 to R237: INC and DEC on a register or the byte at HL; C is unchanged. -/
def Obligations.IncAndDecChangeAByteByOne : Prop :=
  ∀ (o : Opnd8) (s : State),
    encode (incRow o) = [byte (0x04 + 8 * r8Number o)] ∧
    encode (decRow o) = [byte (0x05 + 8 * r8Number o)] ∧
    (let v := operand s o
     let t := afterOperand s o
     exec (incRow o) s = completed (onOperand o 4 12)
       (withFlags (writeBack t o (byte (v.toNat + 1))) (decide (v.toNat = 255)) false
         (decide (v.toNat % 16 = 15)) (s.cpu.f.getLsbD 4)) ∧
     exec (decRow o) s = completed (onOperand o 4 12)
       (withFlags (writeBack t o (byte (v.toNat + 255))) (decide (v.toNat = 1)) true
         (decide (v.toNat % 16 = 0)) (s.cpu.f.getLsbD 4)))

/-- R238: DAA, for every A and every flag combination. -/
def Obligations.DaaAdjustsAByTheFlags : Prop :=
  ∀ s : State,
    encode .DAA = [0x27] ∧
    (let a := s.cpu.a.toNat
     let n := s.cpu.f.getLsbD 6
     let h := s.cpu.f.getLsbD 5
     let c := s.cpu.f.getLsbD 4
     let high : Bool := c || (!n && decide (a > 0x99))
     let low : Bool := h || (!n && decide (a % 16 > 9))
     let change : Nat := (if high then 0x60 else 0) + (if low then 0x06 else 0)
     let res : Byte := if n then byte (a + 256 - change) else byte (a + change)
     exec .DAA s = completed 4 (withA s res (decide (res.toNat = 0)) n false high))

/-- R238 after R215 and R221: on two packed-BCD numbers below 100, ADC then DAA is decimal addition and
SBC then DAA is decimal subtraction, with the decimal carry or borrow in C. -/
def Obligations.DaaMakesAdcAndSbcDecimal : Prop :=
  ∀ (x y : Nat) (s : State), x < 100 → y < 100 → s.cpu.a = bcd x →
    (∃ t u, exec (.ADC_A_n8 (bcd y)) s = .next t ∧ exec .DAA t = .next u ∧
      u.cpu.a = bcd ((x + y + carry s) % 100) ∧ carry u = (x + y + carry s) / 100) ∧
    (∃ t u, exec (.SBC_A_n8 (bcd y)) s = .next t ∧ exec .DAA t = .next u ∧
      u.cpu.a = bcd ((x + 100 - y - carry s) % 100) ∧
      (carry u = 1 ↔ x < y + carry s))

/-- R239 to R241: CPL, SCF and CCF; Z stays. -/
def Obligations.CplScfAndCcfKeepZ : Prop :=
  ∀ s : State,
    encode .CPL = [0x2F] ∧ encode .SCF = [0x37] ∧ encode .CCF = [0x3F] ∧
    (let z := s.cpu.f.getLsbD 7
     let c := s.cpu.f.getLsbD 4
     exec .CPL s = completed 4 (withA s (byte (255 - s.cpu.a.toNat)) z true true c) ∧
     exec .SCF s = completed 4 (withFlags s z false false true) ∧
     exec .CCF s = completed 4 (withFlags s z false false (!c)))

/-! ### 16-bit arithmetic (42_alu16.md) -/

/-- R260, R262: ADD HL,rr: carries out of bits 11 and 15, Z unchanged. -/
def Obligations.AddHLAddsAPairAndKeepsZ : Prop :=
  ∀ (rr : R16) (s : State),
    encode (addHLRow rr) = [byte (0x09 + 16 * r16Number rr)] ∧
    (let hl := (s.r16 .hl).toNat
     let v := (s.r16 rr).toNat
     exec (addHLRow rr) s = completed 8
       (withFlags (s.setR16 .hl (BitVec.ofNat 16 (hl + v))) (s.cpu.f.getLsbD 7) false
         (decide (hl % 4096 + v % 4096 > 4095)) (decide (hl + v > 65535))))

/-- R263, R264: INC rr and DEC rr wrap and write no flag. -/
def Obligations.IncAndDecOfAPairWriteNoFlag : Prop :=
  ∀ (rr : R16) (s : State),
    encode (incR16Row rr) = [byte (0x03 + 16 * r16Number rr)] ∧
    encode (decR16Row rr) = [byte (0x0B + 16 * r16Number rr)] ∧
    exec (incR16Row rr) s =
      completed 8 (s.setR16 rr (BitVec.ofNat 16 ((s.r16 rr).toNat + 1))) ∧
    exec (decR16Row rr) s =
      completed 8 (s.setR16 rr (BitVec.ofNat 16 ((s.r16 rr).toNat + 65535)))

/-- R261, R265, R266: ADD SP,e8 and LD HL,SP+e8: the value takes the displacement signed, the flags take
its unsigned byte. -/
def Obligations.SpDisplacementIsSignedForTheValueOnly : Prop :=
  ∀ (e : Byte) (s : State),
    encode (.ADD_SP_e8 e) = [0xE8, e] ∧ encode (.LD_HL_SP_e8 e) = [0xF8, e] ∧
    exec (.ADD_SP_e8 e) s = completed 16 ((spFlags s e).setR16 .sp (spPlus s e)) ∧
    exec (.LD_HL_SP_e8 e) s = completed 12 ((spFlags s e).setR16 .hl (spPlus s e))

/-! ### Rotates, shifts and bits (43_rotate_shift_bit.md) -/

/-- R300 to R303: the accumulator rotates force Z to 0. -/
def Obligations.AccumulatorRotatesForceZToZero : Prop :=
  ∀ s : State,
    encode .RLCA = [0x07] ∧ encode .RRCA = [0x0F] ∧ encode .RLA = [0x17] ∧ encode .RRA = [0x1F] ∧
    (let a := s.cpu.a.toNat
     let result := fun op : Rot8 =>
       completed 4 (withA s (byte (rotNat op a (carry s))) false false false (rotOut op a))
     exec .RLCA s = result .rlc ∧ exec .RRCA s = result .rrc ∧
     exec .RLA s = result .rl ∧ exec .RRA s = result .rr)

/-- R310, R312, R314, R316, R318, R320, R322, R324: the eight rotates and shifts of a register. -/
def Obligations.RotatesAndShiftsOfARegister : Prop :=
  ∀ (op : Rot8) (r : Reg8) (s : State),
    encode (rotRow op (.reg r)) = [0xCB, byte (8 * rotNumber op + r8Number (.reg r))] ∧
    exec (rotRow op (.reg r)) s = completed 8 (rotated s op (.reg r))

/-- R311, R313, R315, R317, R319, R321, R323, R325: the eight rotates and shifts of the byte at HL: one
read, then one write of the same address. -/
def Obligations.RotatesAndShiftsOfTheByteAtHL : Prop :=
  ∀ (op : Rot8) (s : State),
    encode (rotRow op .hl) = [0xCB, byte (8 * rotNumber op + 6)] ∧
    exec (rotRow op .hl) s = completed 16 (rotated s op .hl)

/-- R326, R327: BIT writes Z, N and H alone; (HL) is read once and not written. -/
def Obligations.BitTestsWithoutWriting : Prop :=
  ∀ (b : B3) (o : Opnd8) (s : State),
    encode (bitRow b o) = [0xCB, byte (0x40 + 8 * b.toNat + r8Number o)] ∧
    exec (bitRow b o) s = completed (onOperand o 8 12)
      (withFlags (afterOperand s o) (!(bitOf (operand s o) b)) false true (s.cpu.f.getLsbD 4))

/-- R328 to R331: RES and SET change one bit of a register or of the byte at HL, and no flag; the write
happens even if the value is unchanged. -/
def Obligations.ResAndSetChangeOneBit : Prop :=
  ∀ (b : B3) (o : Opnd8) (s : State),
    encode (resRow b o) = [0xCB, byte (0x80 + 8 * b.toNat + r8Number o)] ∧
    encode (setRow b o) = [0xCB, byte (0xC0 + 8 * b.toNat + r8Number o)] ∧
    (let v := operand s o
     let t := afterOperand s o
     exec (resRow b o) s = completed (onOperand o 8 16)
       (writeBack t o (byte (if bitOf v b then v.toNat - 2 ^ b.toNat else v.toNat))) ∧
     exec (setRow b o) s = completed (onOperand o 8 16)
       (writeBack t o (byte (if bitOf v b then v.toNat else v.toNat + 2 ^ b.toNat))))

/-! ### Loads, stores and stack transfers (44_load_store.md) -/

/-- R400 to R402: loads into a register from a register, an immediate or the byte at HL; the address is
formed before the register is written. -/
def Obligations.LoadsIntoARegister : Prop :=
  ∀ (dst r : Reg8) (n : Byte) (s : State),
    encode (ldRow (.reg dst) (.reg r)) = [byte (0x40 + 8 * r8Number (.reg dst) + r8Number (.reg r))] ∧
    encode (ldImmRow (.reg dst) n) = [byte (0x06 + 8 * r8Number (.reg dst)), n] ∧
    encode (ldRow (.reg dst) .hl) = [byte (0x46 + 8 * r8Number (.reg dst))] ∧
    exec (ldRow (.reg dst) (.reg r)) s = completed 4 (s.setReg dst (s.reg r)) ∧
    exec (ldImmRow (.reg dst) n) s = completed 8 (s.setReg dst n) ∧
    exec (ldRow (.reg dst) .hl) s = completed 8
      (({ s with bus := s.bus.afterRead s.hl } : State).setReg dst (s.bus.answer s.hl))

/-- R403, R404: stores at HL: the byte goes to HL's address, and in a canonical memory is read back
there. -/
def Obligations.StoresAtHL : Prop :=
  ∀ (r : Reg8) (n : Byte) (s : State),
    encode (ldRow .hl (.reg r)) = [byte (0x70 + r8Number (.reg r))] ∧
    encode (ldImmRow .hl n) = [0x36, n] ∧
    exec (ldRow .hl (.reg r)) s = completed 8 { s with bus := s.bus.afterWrite s.hl (s.reg r) } ∧
    exec (ldImmRow .hl n) s = completed 12 { s with bus := s.bus.afterWrite s.hl n } ∧
    (s.bus.mem.Wf →
      Memory.read (s.bus.afterWrite s.hl (s.reg r)).mem s.hl.toNat = s.reg r ∧
      Memory.read (s.bus.afterWrite s.hl n).mem s.hl.toNat = n)

/-- R405, R406, R409, R411, R413, R415, R416: the loads of A from memory: one read at the address the row
names; HL+ and HL- then move HL. -/
def Obligations.LoadsOfAFromMemory : Prop :=
  ∀ (a : Word) (n : Byte) (s : State),
    encode (loadARow .bc) = [0x0A] ∧ encode (loadARow .de) = [0x1A] ∧
    encode (loadARow .hli) = [0x2A] ∧ encode (loadARow .hld) = [0x3A] ∧
    encode (.LD_A_ma16 a) = [0xFA, byte a.toNat, byte (a.toNat / 256)] ∧
    encode .LDH_A_mC = [0xF2] ∧ encode (.LDH_A_ma8 n) = [0xF0, n] ∧
    (let loaded := fun x : Word =>
       ({ s with
          cpu := { s.cpu with a := s.bus.answer x }, bus := s.bus.afterRead x } : State)
     exec (loadARow .bc) s = completed 8 (loaded (s.r16 .bc)) ∧
     exec (loadARow .de) s = completed 8 (loaded (s.r16 .de)) ∧
     exec (loadARow .hli) s = completed 8 ((loaded s.hl).setR16 .hl (s.hl + 1)) ∧
     exec (loadARow .hld) s = completed 8 ((loaded s.hl).setR16 .hl (s.hl - 1)) ∧
     exec (.LD_A_ma16 a) s = completed 16 (loaded a) ∧
     exec .LDH_A_mC s = completed 8 (loaded (BitVec.ofNat 16 (0xFF00 + s.cpu.c.toNat))) ∧
     exec (.LDH_A_ma8 n) s = completed 12 (loaded (BitVec.ofNat 16 (0xFF00 + n.toNat))))

/-- R407, R408, R410, R412, R414, R417, R418: the stores of A to memory: one write at the address the row
names; HL+ and HL- then move HL. -/
def Obligations.StoresOfAToMemory : Prop :=
  ∀ (a : Word) (n : Byte) (s : State),
    encode (storeARow .bc) = [0x02] ∧ encode (storeARow .de) = [0x12] ∧
    encode (storeARow .hli) = [0x22] ∧ encode (storeARow .hld) = [0x32] ∧
    encode (.LD_ma16_A a) = [0xEA, byte a.toNat, byte (a.toNat / 256)] ∧
    encode .LDH_mC_A = [0xE2] ∧ encode (.LDH_ma8_A n) = [0xE0, n] ∧
    (let stored := fun x : Word => ({ s with bus := s.bus.afterWrite x s.cpu.a } : State)
     exec (storeARow .bc) s = completed 8 (stored (s.r16 .bc)) ∧
     exec (storeARow .de) s = completed 8 (stored (s.r16 .de)) ∧
     exec (storeARow .hli) s = completed 8 ((stored s.hl).setR16 .hl (s.hl + 1)) ∧
     exec (storeARow .hld) s = completed 8 ((stored s.hl).setR16 .hl (s.hl - 1)) ∧
     exec (.LD_ma16_A a) s = completed 16 (stored a) ∧
     exec .LDH_mC_A s = completed 8 (stored (BitVec.ofNat 16 (0xFF00 + s.cpu.c.toNat))) ∧
     exec (.LDH_ma8_A n) s = completed 12 (stored (BitVec.ofNat 16 (0xFF00 + n.toNat))))

/-- R419 to R421: the 16-bit loads; LD (a16),SP writes the low byte at a16, then the high byte at a16 + 1,
which wraps. -/
def Obligations.SixteenBitLoads : Prop :=
  ∀ (rr : R16) (n : Word) (s : State),
    encode (ldR16Row rr n) =
      [byte (0x01 + 16 * r16Number rr), byte n.toNat, byte (n.toNat / 256)] ∧
    encode (.LD_ma16_SP n) = [0x08, byte n.toNat, byte (n.toNat / 256)] ∧
    encode .LD_SP_HL = [0xF9] ∧
    exec (ldR16Row rr n) s = completed 12 (s.setR16 rr n) ∧
    exec (.LD_ma16_SP n) s = completed 20
      { s with
        bus := (s.bus.afterWrite n (byte s.cpu.sp.toNat)).afterWrite
          (BitVec.ofNat 16 (n.toNat + 1)) (byte (s.cpu.sp.toNat / 256)) } ∧
    exec .LD_SP_HL s = completed 8 { s with cpu := { s.cpu with sp := s.hl } }

/-- R422, R430: PUSH writes the high byte at SP - 1, then the low byte at SP - 2, and SP drops by 2. -/
def Obligations.PushWritesThePairBelowSP : Prop :=
  ∀ (rr : R16Stk) (s : State),
    encode (pushRow rr) = [byte (0xC5 + 16 * stkNumber rr)] ∧
    exec (pushRow rr) s = completed 16 (pushed s
      (match rr with
       | .bc => s.r16 .bc
       | .de => s.r16 .de
       | .hl => s.r16 .hl
       | .af => BitVec.ofNat 16 (256 * s.cpu.a.toNat + s.cpu.f.toNat)))

/-- R423, R424, R431: POP reads the low byte at SP, then the high byte at SP + 1, and SP rises by 2; POP
AF clears the low nibble of F. -/
def Obligations.PopReadsThePairAtSP : Prop :=
  ∀ (rr : R16Stk) (s : State),
    encode (popRow rr) = [byte (0xC1 + 16 * stkNumber rr)] ∧
    exec (popRow rr) s = completed 12
      (match rr with
       | .bc => (popped s).setR16 .bc (popValue s)
       | .de => (popped s).setR16 .de (popValue s)
       | .hl => (popped s).setR16 .hl (popValue s)
       | .af => { popped s with
           cpu := { (popped s).cpu with
             a := byte ((popValue s).toNat / 256)
             f := byte ((popValue s).toNat % 256 / 16 * 16) } })

/-- R422 to R424, R430, R431, R508 on a plain RAM: what PUSH stores, POP of any pair gets back (AF
without its low nibble), and RET after CALL returns to the instruction after the CALL; SP is back where
it was. -/
def Obligations.PopUndoesPushAndRetUndoesCall : Prop :=
  ∀ (rr q : R16Stk) (a : Word) (s : State), s.bus.answers = [] → s.bus.mem.Wf →
    (∃ t u, exec (pushRow rr) s = .next t ∧ exec (popRow q) t = .next u ∧
      u.r16Stk q = (if q = .af then s.r16Stk rr &&& 0xFFF0 else s.r16Stk rr) ∧
      u.cpu.sp = s.cpu.sp) ∧
    (∃ t u, exec (.CALL_a16 a) s = .next t ∧ exec .RET t = .next u ∧ t.cpu.pc = a ∧
      u.cpu.pc = s.cpu.pc ∧ u.cpu.sp = s.cpu.sp)

/-! ### Control transfer (45_control.md) -/

/-- R500 to R505: the jumps, absolute, through HL and relative, with their conditions; a jump not taken
leaves pc past the instruction. -/
def Obligations.JumpsSetPcWhenTaken : Prop :=
  ∀ (cc : Cond) (a : Word) (e : Byte) (s : State),
    encode (.JP_a16 a) = [0xC3, byte a.toNat, byte (a.toNat / 256)] ∧
    encode (jpCondRow cc a) = [byte (0xC2 + 8 * ccNumber cc), byte a.toNat, byte (a.toNat / 256)] ∧
    encode .JP_HL = [0xE9] ∧ encode (.JR_e8 e) = [0x18, e] ∧
    encode (jrCondRow cc e) = [byte (0x20 + 8 * ccNumber cc), e] ∧
    exec (.JP_a16 a) s = completed 16 (jumped s a) ∧
    exec (jpCondRow cc a) s =
      (if taken s cc then completed 16 (jumped s a) else completed 12 s) ∧
    exec .JP_HL s = completed 4 (jumped s s.hl) ∧
    exec (.JR_e8 e) s = completed 12 (jumped s (relative s e)) ∧
    exec (jrCondRow cc e) s =
      (if taken s cc then completed 12 (jumped s (relative s e)) else completed 8 s)

/-- R506, R507, R511: CALL, CALL cc and RST push pc and jump; a call not taken makes no bus write. -/
def Obligations.CallsPushTheReturnAddress : Prop :=
  ∀ (cc : Cond) (y : B3) (a : Word) (s : State),
    encode (.CALL_a16 a) = [0xCD, byte a.toNat, byte (a.toNat / 256)] ∧
    encode (callCondRow cc a) =
      [byte (0xC4 + 8 * ccNumber cc), byte a.toNat, byte (a.toNat / 256)] ∧
    encode (rstRow y) = [byte (0xC7 + 8 * y.toNat)] ∧
    exec (.CALL_a16 a) s = completed 24 (jumped (pushed s s.cpu.pc) a) ∧
    exec (callCondRow cc a) s =
      (if taken s cc then completed 24 (jumped (pushed s s.cpu.pc) a) else completed 12 s) ∧
    exec (rstRow y) s =
      completed 16 (jumped (pushed s s.cpu.pc) (BitVec.ofNat 16 (8 * y.toNat)))

/-- R508 to R510: RET, RET cc and RETI pop pc; RETI sets IME at once and cancels a pending enable. -/
def Obligations.ReturnsPopPc : Prop :=
  ∀ (cc : Cond) (s : State),
    encode .RET = [0xC9] ∧ encode (retCondRow cc) = [byte (0xC0 + 8 * ccNumber cc)] ∧
    encode .RETI = [0xD9] ∧
    exec .RET s = completed 16 (jumped (popped s) (popValue s)) ∧
    exec (retCondRow cc) s =
      (if taken s cc then completed 20 (jumped (popped s) (popValue s)) else completed 8 s) ∧
    exec .RETI s = completed 16
      { popped s with
        cpu := { (popped s).cpu with pc := popValue s, ime := true, imePending := false } }

/-! ### System instructions (46_system.md) -/

/-- R560, R562, R563, R564: NOP changes nothing, STOP halts in either mode whatever its second byte, DI
clears IME and a pending enable, EI makes an enable pending if IME is 0. -/
def Obligations.NopStopDiAndEi : Prop :=
  ∀ (n : Byte) (s : State),
    encode .NOP = [0x00] ∧ encode (.STOP n) = [0x10, n] ∧ encode .DI = [0xF3] ∧ encode .EI = [0xFB] ∧
    exec .NOP s = completed 4 s ∧
    exec (.STOP n) s = completed 4 { s with cpu := { s.cpu with run := .halted } } ∧
    exec .DI s = completed 4 { s with cpu := { s.cpu with ime := false, imePending := false } } ∧
    exec .EI s = completed 4
      { s with cpu := { s.cpu with imePending := s.cpu.imePending || !s.cpu.ime } }

/-- R561: HALT in terminal mode halts; in hardware mode a request with IME = 0 sets the HALT bug, or does
nothing if an EI is pending, and anything else halts. For the last hardware case with an EI pending see
assumption 14. -/
def Obligations.HaltHaltsOrSetsTheHaltBug : Prop :=
  ∀ s : State,
    encode .HALT = [0x76] ∧
    (let halted : State := { s with cpu := { s.cpu with run := .halted } }
     let request : Prop := s.irqs.headD 0 ≠ 0
     (s.params.haltMode = .terminal → exec .HALT s = completed 4 halted) ∧
     (s.params.haltMode = .hardware → request → s.cpu.ime = false → s.cpu.imePending = false →
       exec .HALT s = completed 4 { s with cpu := { s.cpu with haltBug := true } }) ∧
     (s.params.haltMode = .hardware → request → s.cpu.ime = false → s.cpu.imePending = true →
       exec .HALT s = completed 4 s) ∧
     (s.params.haltMode = .hardware → (¬request ∨ s.cpu.ime = true) →
       exec .HALT s = completed 4 halted))

/-- R565: PREFIX runs the secondary row its second byte selects, in the same step and at that row's
cost; its bytes are that row's. -/
def Obligations.PrefixRunsTheSecondaryRow : Prop :=
  ∀ (op2 : Byte) (s : State),
    encode (.PREFIX op2) = [0xCB, op2] ∧ encode (decodeSecondary op2) = [0xCB, op2] ∧
    decode [0xCB, op2] = .ok (decodeSecondary op2, []) ∧
    exec (.PREFIX op2) s = exec (decodeSecondary op2) s

/-! ### All instructions -/

/-- R602, R150: every instruction completes, in every state, with its cost added and returned; it changes
neither the parameters nor the request input. -/
def Obligations.EveryInstructionCompletes : Prop :=
  ∀ (i : Instr) (s : State), ∃ t, exec i s = .next t ∧
    s.cpu.cycles < t.cpu.cycles ∧ t.out = .executed (t.cpu.cycles - s.cpu.cycles) ∧
    t.params = s.params ∧ t.irqs = s.irqs

/-- R157, R730: the cost of every instruction is the published figure, the taken one or the not-taken one,
in the unit `CYCLE_UNIT`; that of `PREFIX` is the figure of the row it selects. -/
def Obligations.EveryInstructionCostsItsFigure : Prop :=
  ∀ (i : Instr) (s t : State), exec i s = .next t →
    t.cpu.cycles = s.cpu.cycles + figure s (cost (encode i) (opcodeTaken s (encode i)))

/-- R88, R90: an instruction makes exactly the data reads and writes of its class, beyond its fetches. -/
def Obligations.EveryInstructionMakesItsAccesses : Prop :=
  ∀ (i : Instr) (s t : State), exec i s = .next t →
    ∃ l : List Access, t.bus.log = s.bus.log ++ l ∧
      (l.countP isRead, l.countP fun x => !isRead x) =
        dataAccesses (encode i) (opcodeTaken s (encode i))

/-- Every byte of memory is unchanged by an instruction except at the addresses it stores to; an
instruction with no such address leaves all of memory. -/
def Obligations.StoresChangeOnlyTheirBytes : Prop :=
  ∀ (i : Instr) (s t : State), exec i s = .next t → ∀ b : Word, b ∉ storedAt i s →
    Memory.read t.bus.mem b.toNat = Memory.read s.bus.mem b.toNat

/-- R39: "A flag an instruction rule does not list is unchanged by it": loads, stores, control transfers
and system instructions, INC rr, DEC rr, RES and SET leave F. -/
def Obligations.FlaglessInstructionsLeaveF : Prop :=
  ∀ (i : Instr) (s t : State), writesNoFlag (encode i) = true → exec i s = .next t →
    t.cpu.f = s.cpu.f

/-- R40 to R43: among instructions IME is written by DI and RETI alone, the EI latch by DI, EI and RETI,
the run state by HALT and STOP, the HALT-bug latch by HALT. -/
def Obligations.ControlStateHasFewWriters : Prop :=
  ∀ (i : Instr) (s t : State), exec i s = .next t →
    (i ≠ .DI → i ≠ .RETI → t.cpu.ime = s.cpu.ime) ∧
    (i ≠ .DI → i ≠ .RETI → i ≠ .EI → t.cpu.imePending = s.cpu.imePending) ∧
    (i ≠ .HALT → t.cpu.haltBug = s.cpu.haltBug) ∧
    (i ≠ .HALT → (∀ n, i ≠ .STOP n) → t.cpu.run = s.cpu.run)

/-! ### The step (30_encoding.md section 7, 60_exceptions.md) -/

/-- R151: a Running step that takes no interrupt runs the instruction whose bytes the bus supplies at pc:
it is `exec` of that instruction on the state with pc past it, and then the end of the step. -/
def Obligations.StepRunsTheInstructionAtPc : Prop :=
  ∀ (i : Instr) (s : State), s.cpu.run = .running → ¬interrupted s → s.cpu.haltBug = false →
    i.wellFormed = true → rowsAdmitted s.params (encode i) →
    supplies s.bus s.cpu.pc (encode i) = true →
    step s = ended s.cpu.imePending (exec i
      { s with
        cpu := { s.cpu with pc := s.cpu.pc + BitVec.ofNat 16 (encode i).length }
        bus := afterSupply (freshBus s) s.cpu.pc (encode i) })

/-- R621, R151: with the HALT bug pending the opcode fetch does not advance pc: the instruction's other
bytes are fetched from the opcode's own address on, and the latch clears. -/
def Obligations.HaltBugFetchesTheOpcodeByteAgain : Prop :=
  ∀ (i : Instr) (op : Byte) (rest : List Byte) (s : State), s.cpu.run = .running →
    ¬interrupted s → s.cpu.haltBug = true → i.wellFormed = true → encode i = op :: rest →
    rowsAdmitted s.params (encode i) → s.bus.answer s.cpu.pc = op →
    supplies (s.bus.afterRead s.cpu.pc) s.cpu.pc rest = true →
    step s = ended s.cpu.imePending (exec i
      { s with
        cpu := { s.cpu with pc := s.cpu.pc + BitVec.ofNat 16 rest.length, haltBug := false }
        bus := afterSupply ((freshBus s).afterRead s.cpu.pc) s.cpu.pc rest })

/-- R153, R158, R160, R600, R601: an opcode that is unfilled or not admitted, and a second byte of an
admitted prefix that is not admitted: the core enters Faulted with every register, flag and latch and
the cycle count as at the start of the step, the fetches stay on the bus, and the step after gives the
same record. That the detecting step answers next with the Faulted state, and the step after it the
fault with no next state, is the model's reading (assumption 6); that the step uses up one request value
is the model's choice (assumption 3). -/
def Obligations.UnimplementedOpcodesFault : Prop :=
  ∀ (op op2 : Byte) (s : State), s.cpu.run = .running → ¬interrupted s →
    s.bus.answer s.cpu.pc = op →
    (let rec1 : FaultRecord := { addr := s.cpu.pc, opcode := op, prefixed := false, opcode2 := 0 }
     let t1 : State :=
       { cpu := { s.cpu with run := .faulted rec1 }, bus := (freshBus s).afterRead s.cpu.pc
         irqs := s.irqs.tail, params := s.params, out := .fault rec1 }
     (op ∈ unfilled ∨ admits s.params { secondary := false, byte := op } = false →
       step s = .next t1 ∧ step t1 = .fault (.unimplementedOpcode rec1))) ∧
    (let at2 := if s.cpu.haltBug then s.cpu.pc else s.cpu.pc + 1
     let rec2 : FaultRecord := { addr := s.cpu.pc, opcode := 0xCB, prefixed := true, opcode2 := op2 }
     let t2 : State :=
       { cpu := { s.cpu with run := .faulted rec2 }
         bus := ((freshBus s).afterRead s.cpu.pc).afterRead at2
         irqs := s.irqs.tail, params := s.params, out := .fault rec2 }
     (op = 0xCB → admits s.params { secondary := false, byte := 0xCB } = true →
       (s.bus.afterRead s.cpu.pc).answer at2 = op2 →
       admits s.params { secondary := true, byte := op2 } = false →
       step s = .next t2 ∧ step t2 = .fault (.unimplementedOpcode rec2)))

/-- R159, R620: a Halted core in terminal mode makes no progress and no bus access; in hardware mode it
idles without a request and, with one, runs the Running step at once, whether or not IME is 1. That the
request input, the access record and the report move on in a step R159 says "changes no state" is the
model's choice (assumption 18). -/
def Obligations.HaltedCoreIdlesOrWakes : Prop :=
  ∀ s : State, s.cpu.run = .halted →
    (s.params.haltMode = .terminal →
      step s = .next { s with bus := freshBus s, irqs := s.irqs.tail, out := .halted 0 }) ∧
    (s.params.haltMode = .hardware → s.irqs.headD 0 = 0 →
      step s = .next { s with
        cpu := { s.cpu with cycles := s.cpu.cycles + figure s 4 }
        bus := freshBus s, irqs := s.irqs.tail, out := .halted (figure s 4) }) ∧
    (s.params.haltMode = .hardware → s.irqs.headD 0 ≠ 0 →
      step s = step { s with cpu := { s.cpu with run := .running } })

/-- R611 to R614: with IME = 1 a request is taken before any fetch, in Running and by a hardware-mode
core that was Halted: the lowest-numbered request wins, IME and its latch clear, pc is pushed and pc goes
to that source's vector. SP = 0 and SP = 1 are left out, as 93_implementation_defined.md I8 asks
(assumption 13). -/
def Obligations.InterruptEntryPushesPcAndVectors : Prop :=
  ∀ s : State, (s.cpu.run = .running ∨ (s.cpu.run = .halted ∧ s.params.haltMode = .hardware)) →
    interrupted s → 2 ≤ s.cpu.sp.toNat →
    ∃ k, k < 5 ∧ (s.irqs.headD 0).getLsbD k = true ∧
      (∀ j, j < k → (s.irqs.headD 0).getLsbD j = false) ∧
      step s = .next
        { cpu := { s.cpu with
            run := .running, ime := false, imePending := false
            sp := s.cpu.sp - 2, pc := BitVec.ofNat 16 (0x40 + 8 * k)
            cycles := s.cpu.cycles + figure s 20 }
          bus := ((freshBus s).afterWrite (s.cpu.sp - 1) (byte (s.cpu.pc.toNat / 256))).afterWrite
            (s.cpu.sp - 2) (byte s.cpu.pc.toNat)
          irqs := s.irqs.tail, params := s.params, out := .interrupt (figure s 20) k }

/-- R613, R615 on a plain RAM: RETI at the start of a handler returns to the instruction the interrupt
came before, with SP as it was and IME = 1. SP = 0 and SP = 1 are left out (assumption 13). -/
def Obligations.RetiUndoesInterruptEntry : Prop :=
  ∀ s : State, s.cpu.run = .running → interrupted s → 2 ≤ s.cpu.sp.toNat → s.bus.answers = [] →
    s.bus.mem.Wf →
    ∃ t u, step s = .next t ∧ exec .RETI t = .next u ∧ u.cpu.pc = s.cpu.pc ∧
      u.cpu.sp = s.cpu.sp ∧ u.cpu.ime = true ∧ u.cpu.imePending = false

/-- R156, R564, R720: an enable pending at a step's start is granted at its end, whatever instruction
runs, but for DI, which cancels it; so no interrupt comes before the instruction after an EI. -/
def Obligations.EiTakesEffectAfterOneInstruction : Prop :=
  ∀ (i : Instr) (s : State), s.cpu.ime = false → s.cpu.imePending = true →
    ∃ t, ended true (exec i s) = .next t ∧ t.cpu.imePending = false ∧
      t.cpu.ime = (if i = .DI then false else true)

/-- R95, R720: a byte stored at pc is what the next fetch there reads, on a plain RAM: self-modifying
code needs no fence. -/
def Obligations.AStoreIsSeenByTheNextFetch : Prop :=
  ∀ (v : Byte) (s : State), s.bus.answers = [] → s.bus.mem.Wf → s.hl = s.cpu.pc →
    ∃ t, exec (.LD_mHL_n8 v) s = .next t ∧ t.fetch8.1 = v ∧ t.fetch8.2.cpu.pc = s.cpu.pc + 1

/-- R150, R158, R602: a step answers a next state in Running and in Halted, with the parameters unchanged
and one request value used, and gives the fault signal with the held record in Faulted; it never
refuses. Only the Faulted clause is R158's: that every other step answers next, the one that detects an
unfilled opcode among them, is the model's reading (assumption 6), and the request value used
(assumption 3) and the parameters kept in the state (assumption 4) are the model's choices. -/
def Obligations.StepAlwaysAnswers : Prop :=
  ∀ s : State,
    (∀ rec, s.cpu.run = .faulted rec → step s = .fault (.unimplementedOpcode rec)) ∧
    (s.cpu.fault = none → ∃ t, step s = .next t ∧ t.params = s.params ∧ t.irqs = s.irqs.tail ∧
      s.cpu.cycles ≤ t.cpu.cycles)

/-- R612, R159: in terminal mode a core with IME = 0 ignores requests: what the controller presents
changes nothing. -/
def Obligations.RequestsAreIgnoredWithImeClear : Prop :=
  ∀ (q : List (BitVec 5)) (s t : State), s.cpu.ime = false → s.params.haltMode = .terminal →
    step s = .next t → step { s with irqs := q } = .next { t with irqs := q.tail }

/-- R157, R730: no result depends on a cost: two states that differ only in the cycle count, the unit and
the last report go to states that differ only there. -/
def Obligations.CyclesNeverInfluenceResults : Prop :=
  ∀ s u : State, forgetTime s = forgetTime u → agree (step s) (step u)

/-! ### Invariants -/

/-- R32, R41, R42, R601, R621: every step keeps the invariant: the low nibble of F is 0, the interrupt
latches are consistent, a fault record names pc, and memory is in canonical form. -/
def Obligations.StepKeepsTheInvariant : Prop :=
  ∀ s t : State, s.Inv → step s = .next t → t.Inv

/-- R50, R32: the invariant holds right after construction, and after the driver's reset in any profile
from any state whose memory is canonical. -/
def Obligations.ResetMeetsTheInvariant : Prop :=
  State.reset.Inv ∧ ∀ s : State, s.bus.mem.Wf → s.driverReset.Inv
end

