-- ==== Sys2Proof/Laws/Forms.lean ====
section
/-! SUPPORT. Every instruction is a row of one of the families of Decode.lean, or one of the rows with a
family of their own: the case split to use for a fact about all 501 rows. -/

namespace Sys2Proof

/-- A fact about every row, from one fact for each family and each single row. -/
theorem Instr.byForm {P : Instr → Prop}
    (ld : ∀ d q, P (ldRow d q))
    (ldImm : ∀ d n, P (ldImmRow d n))
    (alu : ∀ op q, P (aluRow op q))
    (aluImm : ∀ op n, P (aluImmRow op n))
    (inc : ∀ q, P (incRow q))
    (dec : ∀ q, P (decRow q))
    (ldR16 : ∀ rr n, P (ldR16Row rr n))
    (addHL : ∀ rr, P (addHLRow rr))
    (incR16 : ∀ rr, P (incR16Row rr))
    (decR16 : ∀ rr, P (decR16Row rr))
    (storeA : ∀ m, P (storeARow m))
    (loadA : ∀ m, P (loadARow m))
    (push : ∀ rr, P (pushRow rr))
    (pop : ∀ rr, P (popRow rr))
    (jrCond : ∀ cc e, P (jrCondRow cc e))
    (jpCond : ∀ cc t, P (jpCondRow cc t))
    (callCond : ∀ cc t, P (callCondRow cc t))
    (retCond : ∀ cc, P (retCondRow cc))
    (rst : ∀ y, P (rstRow y))
    (rot : ∀ op q, P (rotRow op q))
    (bit : ∀ b q, P (bitRow b q))
    (res : ∀ b q, P (resRow b q))
    (set : ∀ b q, P (setRow b q))
    (rowNOP : P .NOP)
    (rowRLCA : P .RLCA)
    (rowLD_ma16_SP : ∀ n, P (.LD_ma16_SP n))
    (rowRRCA : P .RRCA)
    (rowSTOP : ∀ n, P (.STOP n))
    (rowRLA : P .RLA)
    (rowJR_e8 : ∀ n, P (.JR_e8 n))
    (rowRRA : P .RRA)
    (rowDAA : P .DAA)
    (rowCPL : P .CPL)
    (rowSCF : P .SCF)
    (rowCCF : P .CCF)
    (rowJP_a16 : ∀ n, P (.JP_a16 n))
    (rowRET : P .RET)
    (rowPREFIX : ∀ n, P (.PREFIX n))
    (rowCALL_a16 : ∀ n, P (.CALL_a16 n))
    (rowRETI : P .RETI)
    (rowLDH_ma8_A : ∀ n, P (.LDH_ma8_A n))
    (rowLDH_mC_A : P .LDH_mC_A)
    (rowADD_SP_e8 : ∀ n, P (.ADD_SP_e8 n))
    (rowJP_HL : P .JP_HL)
    (rowLD_ma16_A : ∀ n, P (.LD_ma16_A n))
    (rowLDH_A_ma8 : ∀ n, P (.LDH_A_ma8 n))
    (rowLDH_A_mC : P .LDH_A_mC)
    (rowDI : P .DI)
    (rowLD_HL_SP_e8 : ∀ n, P (.LD_HL_SP_e8 n))
    (rowLD_SP_HL : P .LD_SP_HL)
    (rowLD_A_ma16 : ∀ n, P (.LD_A_ma16 n))
    (rowEI : P .EI)
    (i : Instr) : P i :=
  match i with
  | .NOP => rowNOP
  | .LD_BC_n16 n => ldR16 .bc n
  | .LD_mBC_A => storeA .bc
  | .INC_BC => incR16 .bc
  | .INC_B => inc (.reg .b)
  | .DEC_B => dec (.reg .b)
  | .LD_B_n8 n => ldImm (.reg .b) n
  | .RLCA => rowRLCA
  | .LD_ma16_SP n => rowLD_ma16_SP n
  | .ADD_HL_BC => addHL .bc
  | .LD_A_mBC => loadA .bc
  | .DEC_BC => decR16 .bc
  | .INC_C => inc (.reg .c)
  | .DEC_C => dec (.reg .c)
  | .LD_C_n8 n => ldImm (.reg .c) n
  | .RRCA => rowRRCA
  | .STOP n => rowSTOP n
  | .LD_DE_n16 n => ldR16 .de n
  | .LD_mDE_A => storeA .de
  | .INC_DE => incR16 .de
  | .INC_D => inc (.reg .d)
  | .DEC_D => dec (.reg .d)
  | .LD_D_n8 n => ldImm (.reg .d) n
  | .RLA => rowRLA
  | .JR_e8 n => rowJR_e8 n
  | .ADD_HL_DE => addHL .de
  | .LD_A_mDE => loadA .de
  | .DEC_DE => decR16 .de
  | .INC_E => inc (.reg .e)
  | .DEC_E => dec (.reg .e)
  | .LD_E_n8 n => ldImm (.reg .e) n
  | .RRA => rowRRA
  | .JR_NZ_e8 n => jrCond .nz n
  | .LD_HL_n16 n => ldR16 .hl n
  | .LD_mHLI_A => storeA .hli
  | .INC_HL => incR16 .hl
  | .INC_H => inc (.reg .h)
  | .DEC_H => dec (.reg .h)
  | .LD_H_n8 n => ldImm (.reg .h) n
  | .DAA => rowDAA
  | .JR_Z_e8 n => jrCond .z n
  | .ADD_HL_HL => addHL .hl
  | .LD_A_mHLI => loadA .hli
  | .DEC_HL => decR16 .hl
  | .INC_L => inc (.reg .l)
  | .DEC_L => dec (.reg .l)
  | .LD_L_n8 n => ldImm (.reg .l) n
  | .CPL => rowCPL
  | .JR_NC_e8 n => jrCond .nc n
  | .LD_SP_n16 n => ldR16 .sp n
  | .LD_mHLD_A => storeA .hld
  | .INC_SP => incR16 .sp
  | .INC_mHL => inc .hl
  | .DEC_mHL => dec .hl
  | .LD_mHL_n8 n => ldImm .hl n
  | .SCF => rowSCF
  | .JR_C_e8 n => jrCond .c n
  | .ADD_HL_SP => addHL .sp
  | .LD_A_mHLD => loadA .hld
  | .DEC_SP => decR16 .sp
  | .INC_A => inc (.reg .a)
  | .DEC_A => dec (.reg .a)
  | .LD_A_n8 n => ldImm (.reg .a) n
  | .CCF => rowCCF
  | .LD_B_B => ld (.reg .b) (.reg .b)
  | .LD_B_C => ld (.reg .b) (.reg .c)
  | .LD_B_D => ld (.reg .b) (.reg .d)
  | .LD_B_E => ld (.reg .b) (.reg .e)
  | .LD_B_H => ld (.reg .b) (.reg .h)
  | .LD_B_L => ld (.reg .b) (.reg .l)
  | .LD_B_mHL => ld (.reg .b) .hl
  | .LD_B_A => ld (.reg .b) (.reg .a)
  | .LD_C_B => ld (.reg .c) (.reg .b)
  | .LD_C_C => ld (.reg .c) (.reg .c)
  | .LD_C_D => ld (.reg .c) (.reg .d)
  | .LD_C_E => ld (.reg .c) (.reg .e)
  | .LD_C_H => ld (.reg .c) (.reg .h)
  | .LD_C_L => ld (.reg .c) (.reg .l)
  | .LD_C_mHL => ld (.reg .c) .hl
  | .LD_C_A => ld (.reg .c) (.reg .a)
  | .LD_D_B => ld (.reg .d) (.reg .b)
  | .LD_D_C => ld (.reg .d) (.reg .c)
  | .LD_D_D => ld (.reg .d) (.reg .d)
  | .LD_D_E => ld (.reg .d) (.reg .e)
  | .LD_D_H => ld (.reg .d) (.reg .h)
  | .LD_D_L => ld (.reg .d) (.reg .l)
  | .LD_D_mHL => ld (.reg .d) .hl
  | .LD_D_A => ld (.reg .d) (.reg .a)
  | .LD_E_B => ld (.reg .e) (.reg .b)
  | .LD_E_C => ld (.reg .e) (.reg .c)
  | .LD_E_D => ld (.reg .e) (.reg .d)
  | .LD_E_E => ld (.reg .e) (.reg .e)
  | .LD_E_H => ld (.reg .e) (.reg .h)
  | .LD_E_L => ld (.reg .e) (.reg .l)
  | .LD_E_mHL => ld (.reg .e) .hl
  | .LD_E_A => ld (.reg .e) (.reg .a)
  | .LD_H_B => ld (.reg .h) (.reg .b)
  | .LD_H_C => ld (.reg .h) (.reg .c)
  | .LD_H_D => ld (.reg .h) (.reg .d)
  | .LD_H_E => ld (.reg .h) (.reg .e)
  | .LD_H_H => ld (.reg .h) (.reg .h)
  | .LD_H_L => ld (.reg .h) (.reg .l)
  | .LD_H_mHL => ld (.reg .h) .hl
  | .LD_H_A => ld (.reg .h) (.reg .a)
  | .LD_L_B => ld (.reg .l) (.reg .b)
  | .LD_L_C => ld (.reg .l) (.reg .c)
  | .LD_L_D => ld (.reg .l) (.reg .d)
  | .LD_L_E => ld (.reg .l) (.reg .e)
  | .LD_L_H => ld (.reg .l) (.reg .h)
  | .LD_L_L => ld (.reg .l) (.reg .l)
  | .LD_L_mHL => ld (.reg .l) .hl
  | .LD_L_A => ld (.reg .l) (.reg .a)
  | .LD_mHL_B => ld .hl (.reg .b)
  | .LD_mHL_C => ld .hl (.reg .c)
  | .LD_mHL_D => ld .hl (.reg .d)
  | .LD_mHL_E => ld .hl (.reg .e)
  | .LD_mHL_H => ld .hl (.reg .h)
  | .LD_mHL_L => ld .hl (.reg .l)
  | .HALT => ld .hl .hl
  | .LD_mHL_A => ld .hl (.reg .a)
  | .LD_A_B => ld (.reg .a) (.reg .b)
  | .LD_A_C => ld (.reg .a) (.reg .c)
  | .LD_A_D => ld (.reg .a) (.reg .d)
  | .LD_A_E => ld (.reg .a) (.reg .e)
  | .LD_A_H => ld (.reg .a) (.reg .h)
  | .LD_A_L => ld (.reg .a) (.reg .l)
  | .LD_A_mHL => ld (.reg .a) .hl
  | .LD_A_A => ld (.reg .a) (.reg .a)
  | .ADD_A_B => alu .add (.reg .b)
  | .ADD_A_C => alu .add (.reg .c)
  | .ADD_A_D => alu .add (.reg .d)
  | .ADD_A_E => alu .add (.reg .e)
  | .ADD_A_H => alu .add (.reg .h)
  | .ADD_A_L => alu .add (.reg .l)
  | .ADD_A_mHL => alu .add .hl
  | .ADD_A_A => alu .add (.reg .a)
  | .ADC_A_B => alu .adc (.reg .b)
  | .ADC_A_C => alu .adc (.reg .c)
  | .ADC_A_D => alu .adc (.reg .d)
  | .ADC_A_E => alu .adc (.reg .e)
  | .ADC_A_H => alu .adc (.reg .h)
  | .ADC_A_L => alu .adc (.reg .l)
  | .ADC_A_mHL => alu .adc .hl
  | .ADC_A_A => alu .adc (.reg .a)
  | .SUB_A_B => alu .sub (.reg .b)
  | .SUB_A_C => alu .sub (.reg .c)
  | .SUB_A_D => alu .sub (.reg .d)
  | .SUB_A_E => alu .sub (.reg .e)
  | .SUB_A_H => alu .sub (.reg .h)
  | .SUB_A_L => alu .sub (.reg .l)
  | .SUB_A_mHL => alu .sub .hl
  | .SUB_A_A => alu .sub (.reg .a)
  | .SBC_A_B => alu .sbc (.reg .b)
  | .SBC_A_C => alu .sbc (.reg .c)
  | .SBC_A_D => alu .sbc (.reg .d)
  | .SBC_A_E => alu .sbc (.reg .e)
  | .SBC_A_H => alu .sbc (.reg .h)
  | .SBC_A_L => alu .sbc (.reg .l)
  | .SBC_A_mHL => alu .sbc .hl
  | .SBC_A_A => alu .sbc (.reg .a)
  | .AND_A_B => alu .and (.reg .b)
  | .AND_A_C => alu .and (.reg .c)
  | .AND_A_D => alu .and (.reg .d)
  | .AND_A_E => alu .and (.reg .e)
  | .AND_A_H => alu .and (.reg .h)
  | .AND_A_L => alu .and (.reg .l)
  | .AND_A_mHL => alu .and .hl
  | .AND_A_A => alu .and (.reg .a)
  | .XOR_A_B => alu .xor (.reg .b)
  | .XOR_A_C => alu .xor (.reg .c)
  | .XOR_A_D => alu .xor (.reg .d)
  | .XOR_A_E => alu .xor (.reg .e)
  | .XOR_A_H => alu .xor (.reg .h)
  | .XOR_A_L => alu .xor (.reg .l)
  | .XOR_A_mHL => alu .xor .hl
  | .XOR_A_A => alu .xor (.reg .a)
  | .OR_A_B => alu .or (.reg .b)
  | .OR_A_C => alu .or (.reg .c)
  | .OR_A_D => alu .or (.reg .d)
  | .OR_A_E => alu .or (.reg .e)
  | .OR_A_H => alu .or (.reg .h)
  | .OR_A_L => alu .or (.reg .l)
  | .OR_A_mHL => alu .or .hl
  | .OR_A_A => alu .or (.reg .a)
  | .CP_A_B => alu .cp (.reg .b)
  | .CP_A_C => alu .cp (.reg .c)
  | .CP_A_D => alu .cp (.reg .d)
  | .CP_A_E => alu .cp (.reg .e)
  | .CP_A_H => alu .cp (.reg .h)
  | .CP_A_L => alu .cp (.reg .l)
  | .CP_A_mHL => alu .cp .hl
  | .CP_A_A => alu .cp (.reg .a)
  | .RET_NZ => retCond .nz
  | .POP_BC => pop .bc
  | .JP_NZ_a16 n => jpCond .nz n
  | .JP_a16 n => rowJP_a16 n
  | .CALL_NZ_a16 n => callCond .nz n
  | .PUSH_BC => push .bc
  | .ADD_A_n8 n => aluImm .add n
  | .RST_0x00 => rst .n0
  | .RET_Z => retCond .z
  | .RET => rowRET
  | .JP_Z_a16 n => jpCond .z n
  | .PREFIX n => rowPREFIX n
  | .CALL_Z_a16 n => callCond .z n
  | .CALL_a16 n => rowCALL_a16 n
  | .ADC_A_n8 n => aluImm .adc n
  | .RST_0x08 => rst .n1
  | .RET_NC => retCond .nc
  | .POP_DE => pop .de
  | .JP_NC_a16 n => jpCond .nc n
  | .CALL_NC_a16 n => callCond .nc n
  | .PUSH_DE => push .de
  | .SUB_A_n8 n => aluImm .sub n
  | .RST_0x10 => rst .n2
  | .RET_C => retCond .c
  | .RETI => rowRETI
  | .JP_C_a16 n => jpCond .c n
  | .CALL_C_a16 n => callCond .c n
  | .SBC_A_n8 n => aluImm .sbc n
  | .RST_0x18 => rst .n3
  | .LDH_ma8_A n => rowLDH_ma8_A n
  | .POP_HL => pop .hl
  | .LDH_mC_A => rowLDH_mC_A
  | .PUSH_HL => push .hl
  | .AND_A_n8 n => aluImm .and n
  | .RST_0x20 => rst .n4
  | .ADD_SP_e8 n => rowADD_SP_e8 n
  | .JP_HL => rowJP_HL
  | .LD_ma16_A n => rowLD_ma16_A n
  | .XOR_A_n8 n => aluImm .xor n
  | .RST_0x28 => rst .n5
  | .LDH_A_ma8 n => rowLDH_A_ma8 n
  | .POP_AF => pop .af
  | .LDH_A_mC => rowLDH_A_mC
  | .DI => rowDI
  | .PUSH_AF => push .af
  | .OR_A_n8 n => aluImm .or n
  | .RST_0x30 => rst .n6
  | .LD_HL_SP_e8 n => rowLD_HL_SP_e8 n
  | .LD_SP_HL => rowLD_SP_HL
  | .LD_A_ma16 n => rowLD_A_ma16 n
  | .EI => rowEI
  | .CP_A_n8 n => aluImm .cp n
  | .RST_0x38 => rst .n7
  | .RLC_B => rot .rlc (.reg .b)
  | .RLC_C => rot .rlc (.reg .c)
  | .RLC_D => rot .rlc (.reg .d)
  | .RLC_E => rot .rlc (.reg .e)
  | .RLC_H => rot .rlc (.reg .h)
  | .RLC_L => rot .rlc (.reg .l)
  | .RLC_mHL => rot .rlc .hl
  | .RLC_A => rot .rlc (.reg .a)
  | .RRC_B => rot .rrc (.reg .b)
  | .RRC_C => rot .rrc (.reg .c)
  | .RRC_D => rot .rrc (.reg .d)
  | .RRC_E => rot .rrc (.reg .e)
  | .RRC_H => rot .rrc (.reg .h)
  | .RRC_L => rot .rrc (.reg .l)
  | .RRC_mHL => rot .rrc .hl
  | .RRC_A => rot .rrc (.reg .a)
  | .RL_B => rot .rl (.reg .b)
  | .RL_C => rot .rl (.reg .c)
  | .RL_D => rot .rl (.reg .d)
  | .RL_E => rot .rl (.reg .e)
  | .RL_H => rot .rl (.reg .h)
  | .RL_L => rot .rl (.reg .l)
  | .RL_mHL => rot .rl .hl
  | .RL_A => rot .rl (.reg .a)
  | .RR_B => rot .rr (.reg .b)
  | .RR_C => rot .rr (.reg .c)
  | .RR_D => rot .rr (.reg .d)
  | .RR_E => rot .rr (.reg .e)
  | .RR_H => rot .rr (.reg .h)
  | .RR_L => rot .rr (.reg .l)
  | .RR_mHL => rot .rr .hl
  | .RR_A => rot .rr (.reg .a)
  | .SLA_B => rot .sla (.reg .b)
  | .SLA_C => rot .sla (.reg .c)
  | .SLA_D => rot .sla (.reg .d)
  | .SLA_E => rot .sla (.reg .e)
  | .SLA_H => rot .sla (.reg .h)
  | .SLA_L => rot .sla (.reg .l)
  | .SLA_mHL => rot .sla .hl
  | .SLA_A => rot .sla (.reg .a)
  | .SRA_B => rot .sra (.reg .b)
  | .SRA_C => rot .sra (.reg .c)
  | .SRA_D => rot .sra (.reg .d)
  | .SRA_E => rot .sra (.reg .e)
  | .SRA_H => rot .sra (.reg .h)
  | .SRA_L => rot .sra (.reg .l)
  | .SRA_mHL => rot .sra .hl
  | .SRA_A => rot .sra (.reg .a)
  | .SWAP_B => rot .swap (.reg .b)
  | .SWAP_C => rot .swap (.reg .c)
  | .SWAP_D => rot .swap (.reg .d)
  | .SWAP_E => rot .swap (.reg .e)
  | .SWAP_H => rot .swap (.reg .h)
  | .SWAP_L => rot .swap (.reg .l)
  | .SWAP_mHL => rot .swap .hl
  | .SWAP_A => rot .swap (.reg .a)
  | .SRL_B => rot .srl (.reg .b)
  | .SRL_C => rot .srl (.reg .c)
  | .SRL_D => rot .srl (.reg .d)
  | .SRL_E => rot .srl (.reg .e)
  | .SRL_H => rot .srl (.reg .h)
  | .SRL_L => rot .srl (.reg .l)
  | .SRL_mHL => rot .srl .hl
  | .SRL_A => rot .srl (.reg .a)
  | .BIT_0_B => bit .n0 (.reg .b)
  | .BIT_0_C => bit .n0 (.reg .c)
  | .BIT_0_D => bit .n0 (.reg .d)
  | .BIT_0_E => bit .n0 (.reg .e)
  | .BIT_0_H => bit .n0 (.reg .h)
  | .BIT_0_L => bit .n0 (.reg .l)
  | .BIT_0_mHL => bit .n0 .hl
  | .BIT_0_A => bit .n0 (.reg .a)
  | .BIT_1_B => bit .n1 (.reg .b)
  | .BIT_1_C => bit .n1 (.reg .c)
  | .BIT_1_D => bit .n1 (.reg .d)
  | .BIT_1_E => bit .n1 (.reg .e)
  | .BIT_1_H => bit .n1 (.reg .h)
  | .BIT_1_L => bit .n1 (.reg .l)
  | .BIT_1_mHL => bit .n1 .hl
  | .BIT_1_A => bit .n1 (.reg .a)
  | .BIT_2_B => bit .n2 (.reg .b)
  | .BIT_2_C => bit .n2 (.reg .c)
  | .BIT_2_D => bit .n2 (.reg .d)
  | .BIT_2_E => bit .n2 (.reg .e)
  | .BIT_2_H => bit .n2 (.reg .h)
  | .BIT_2_L => bit .n2 (.reg .l)
  | .BIT_2_mHL => bit .n2 .hl
  | .BIT_2_A => bit .n2 (.reg .a)
  | .BIT_3_B => bit .n3 (.reg .b)
  | .BIT_3_C => bit .n3 (.reg .c)
  | .BIT_3_D => bit .n3 (.reg .d)
  | .BIT_3_E => bit .n3 (.reg .e)
  | .BIT_3_H => bit .n3 (.reg .h)
  | .BIT_3_L => bit .n3 (.reg .l)
  | .BIT_3_mHL => bit .n3 .hl
  | .BIT_3_A => bit .n3 (.reg .a)
  | .BIT_4_B => bit .n4 (.reg .b)
  | .BIT_4_C => bit .n4 (.reg .c)
  | .BIT_4_D => bit .n4 (.reg .d)
  | .BIT_4_E => bit .n4 (.reg .e)
  | .BIT_4_H => bit .n4 (.reg .h)
  | .BIT_4_L => bit .n4 (.reg .l)
  | .BIT_4_mHL => bit .n4 .hl
  | .BIT_4_A => bit .n4 (.reg .a)
  | .BIT_5_B => bit .n5 (.reg .b)
  | .BIT_5_C => bit .n5 (.reg .c)
  | .BIT_5_D => bit .n5 (.reg .d)
  | .BIT_5_E => bit .n5 (.reg .e)
  | .BIT_5_H => bit .n5 (.reg .h)
  | .BIT_5_L => bit .n5 (.reg .l)
  | .BIT_5_mHL => bit .n5 .hl
  | .BIT_5_A => bit .n5 (.reg .a)
  | .BIT_6_B => bit .n6 (.reg .b)
  | .BIT_6_C => bit .n6 (.reg .c)
  | .BIT_6_D => bit .n6 (.reg .d)
  | .BIT_6_E => bit .n6 (.reg .e)
  | .BIT_6_H => bit .n6 (.reg .h)
  | .BIT_6_L => bit .n6 (.reg .l)
  | .BIT_6_mHL => bit .n6 .hl
  | .BIT_6_A => bit .n6 (.reg .a)
  | .BIT_7_B => bit .n7 (.reg .b)
  | .BIT_7_C => bit .n7 (.reg .c)
  | .BIT_7_D => bit .n7 (.reg .d)
  | .BIT_7_E => bit .n7 (.reg .e)
  | .BIT_7_H => bit .n7 (.reg .h)
  | .BIT_7_L => bit .n7 (.reg .l)
  | .BIT_7_mHL => bit .n7 .hl
  | .BIT_7_A => bit .n7 (.reg .a)
  | .RES_0_B => res .n0 (.reg .b)
  | .RES_0_C => res .n0 (.reg .c)
  | .RES_0_D => res .n0 (.reg .d)
  | .RES_0_E => res .n0 (.reg .e)
  | .RES_0_H => res .n0 (.reg .h)
  | .RES_0_L => res .n0 (.reg .l)
  | .RES_0_mHL => res .n0 .hl
  | .RES_0_A => res .n0 (.reg .a)
  | .RES_1_B => res .n1 (.reg .b)
  | .RES_1_C => res .n1 (.reg .c)
  | .RES_1_D => res .n1 (.reg .d)
  | .RES_1_E => res .n1 (.reg .e)
  | .RES_1_H => res .n1 (.reg .h)
  | .RES_1_L => res .n1 (.reg .l)
  | .RES_1_mHL => res .n1 .hl
  | .RES_1_A => res .n1 (.reg .a)
  | .RES_2_B => res .n2 (.reg .b)
  | .RES_2_C => res .n2 (.reg .c)
  | .RES_2_D => res .n2 (.reg .d)
  | .RES_2_E => res .n2 (.reg .e)
  | .RES_2_H => res .n2 (.reg .h)
  | .RES_2_L => res .n2 (.reg .l)
  | .RES_2_mHL => res .n2 .hl
  | .RES_2_A => res .n2 (.reg .a)
  | .RES_3_B => res .n3 (.reg .b)
  | .RES_3_C => res .n3 (.reg .c)
  | .RES_3_D => res .n3 (.reg .d)
  | .RES_3_E => res .n3 (.reg .e)
  | .RES_3_H => res .n3 (.reg .h)
  | .RES_3_L => res .n3 (.reg .l)
  | .RES_3_mHL => res .n3 .hl
  | .RES_3_A => res .n3 (.reg .a)
  | .RES_4_B => res .n4 (.reg .b)
  | .RES_4_C => res .n4 (.reg .c)
  | .RES_4_D => res .n4 (.reg .d)
  | .RES_4_E => res .n4 (.reg .e)
  | .RES_4_H => res .n4 (.reg .h)
  | .RES_4_L => res .n4 (.reg .l)
  | .RES_4_mHL => res .n4 .hl
  | .RES_4_A => res .n4 (.reg .a)
  | .RES_5_B => res .n5 (.reg .b)
  | .RES_5_C => res .n5 (.reg .c)
  | .RES_5_D => res .n5 (.reg .d)
  | .RES_5_E => res .n5 (.reg .e)
  | .RES_5_H => res .n5 (.reg .h)
  | .RES_5_L => res .n5 (.reg .l)
  | .RES_5_mHL => res .n5 .hl
  | .RES_5_A => res .n5 (.reg .a)
  | .RES_6_B => res .n6 (.reg .b)
  | .RES_6_C => res .n6 (.reg .c)
  | .RES_6_D => res .n6 (.reg .d)
  | .RES_6_E => res .n6 (.reg .e)
  | .RES_6_H => res .n6 (.reg .h)
  | .RES_6_L => res .n6 (.reg .l)
  | .RES_6_mHL => res .n6 .hl
  | .RES_6_A => res .n6 (.reg .a)
  | .RES_7_B => res .n7 (.reg .b)
  | .RES_7_C => res .n7 (.reg .c)
  | .RES_7_D => res .n7 (.reg .d)
  | .RES_7_E => res .n7 (.reg .e)
  | .RES_7_H => res .n7 (.reg .h)
  | .RES_7_L => res .n7 (.reg .l)
  | .RES_7_mHL => res .n7 .hl
  | .RES_7_A => res .n7 (.reg .a)
  | .SET_0_B => set .n0 (.reg .b)
  | .SET_0_C => set .n0 (.reg .c)
  | .SET_0_D => set .n0 (.reg .d)
  | .SET_0_E => set .n0 (.reg .e)
  | .SET_0_H => set .n0 (.reg .h)
  | .SET_0_L => set .n0 (.reg .l)
  | .SET_0_mHL => set .n0 .hl
  | .SET_0_A => set .n0 (.reg .a)
  | .SET_1_B => set .n1 (.reg .b)
  | .SET_1_C => set .n1 (.reg .c)
  | .SET_1_D => set .n1 (.reg .d)
  | .SET_1_E => set .n1 (.reg .e)
  | .SET_1_H => set .n1 (.reg .h)
  | .SET_1_L => set .n1 (.reg .l)
  | .SET_1_mHL => set .n1 .hl
  | .SET_1_A => set .n1 (.reg .a)
  | .SET_2_B => set .n2 (.reg .b)
  | .SET_2_C => set .n2 (.reg .c)
  | .SET_2_D => set .n2 (.reg .d)
  | .SET_2_E => set .n2 (.reg .e)
  | .SET_2_H => set .n2 (.reg .h)
  | .SET_2_L => set .n2 (.reg .l)
  | .SET_2_mHL => set .n2 .hl
  | .SET_2_A => set .n2 (.reg .a)
  | .SET_3_B => set .n3 (.reg .b)
  | .SET_3_C => set .n3 (.reg .c)
  | .SET_3_D => set .n3 (.reg .d)
  | .SET_3_E => set .n3 (.reg .e)
  | .SET_3_H => set .n3 (.reg .h)
  | .SET_3_L => set .n3 (.reg .l)
  | .SET_3_mHL => set .n3 .hl
  | .SET_3_A => set .n3 (.reg .a)
  | .SET_4_B => set .n4 (.reg .b)
  | .SET_4_C => set .n4 (.reg .c)
  | .SET_4_D => set .n4 (.reg .d)
  | .SET_4_E => set .n4 (.reg .e)
  | .SET_4_H => set .n4 (.reg .h)
  | .SET_4_L => set .n4 (.reg .l)
  | .SET_4_mHL => set .n4 .hl
  | .SET_4_A => set .n4 (.reg .a)
  | .SET_5_B => set .n5 (.reg .b)
  | .SET_5_C => set .n5 (.reg .c)
  | .SET_5_D => set .n5 (.reg .d)
  | .SET_5_E => set .n5 (.reg .e)
  | .SET_5_H => set .n5 (.reg .h)
  | .SET_5_L => set .n5 (.reg .l)
  | .SET_5_mHL => set .n5 .hl
  | .SET_5_A => set .n5 (.reg .a)
  | .SET_6_B => set .n6 (.reg .b)
  | .SET_6_C => set .n6 (.reg .c)
  | .SET_6_D => set .n6 (.reg .d)
  | .SET_6_E => set .n6 (.reg .e)
  | .SET_6_H => set .n6 (.reg .h)
  | .SET_6_L => set .n6 (.reg .l)
  | .SET_6_mHL => set .n6 .hl
  | .SET_6_A => set .n6 (.reg .a)
  | .SET_7_B => set .n7 (.reg .b)
  | .SET_7_C => set .n7 (.reg .c)
  | .SET_7_D => set .n7 (.reg .d)
  | .SET_7_E => set .n7 (.reg .e)
  | .SET_7_H => set .n7 (.reg .h)
  | .SET_7_L => set .n7 (.reg .l)
  | .SET_7_mHL => set .n7 .hl
  | .SET_7_A => set .n7 (.reg .a)

end Sys2Proof
end

