-- ==== Sys2Proof/Laws/State.lean ====
section
/-! SUPPORT. What each named update of the state leaves in each field: one lemma per field per update,
so that no proof unfolds an update. The updates of Operands.lean and Ops.lean, in their order. -/

namespace Sys2Proof.Machine

/-! ### `setReg` -/

@[simp] theorem State.setReg_cpu_a (s : State) (r : Reg8) (v : Byte) :
    (s.setReg r v).cpu.a = if r = .a then v else s.cpu.a := by cases r <;> rfl
@[simp] theorem State.setReg_cpu_f (s : State) (r : Reg8) (v : Byte) :
    (s.setReg r v).cpu.f = s.cpu.f := by cases r <;> rfl
@[simp] theorem State.setReg_cpu_b (s : State) (r : Reg8) (v : Byte) :
    (s.setReg r v).cpu.b = if r = .b then v else s.cpu.b := by cases r <;> rfl
@[simp] theorem State.setReg_cpu_c (s : State) (r : Reg8) (v : Byte) :
    (s.setReg r v).cpu.c = if r = .c then v else s.cpu.c := by cases r <;> rfl
@[simp] theorem State.setReg_cpu_d (s : State) (r : Reg8) (v : Byte) :
    (s.setReg r v).cpu.d = if r = .d then v else s.cpu.d := by cases r <;> rfl
@[simp] theorem State.setReg_cpu_e (s : State) (r : Reg8) (v : Byte) :
    (s.setReg r v).cpu.e = if r = .e then v else s.cpu.e := by cases r <;> rfl
@[simp] theorem State.setReg_cpu_h (s : State) (r : Reg8) (v : Byte) :
    (s.setReg r v).cpu.h = if r = .h then v else s.cpu.h := by cases r <;> rfl
@[simp] theorem State.setReg_cpu_l (s : State) (r : Reg8) (v : Byte) :
    (s.setReg r v).cpu.l = if r = .l then v else s.cpu.l := by cases r <;> rfl
@[simp] theorem State.setReg_cpu_sp (s : State) (r : Reg8) (v : Byte) :
    (s.setReg r v).cpu.sp = s.cpu.sp := by cases r <;> rfl
@[simp] theorem State.setReg_cpu_pc (s : State) (r : Reg8) (v : Byte) :
    (s.setReg r v).cpu.pc = s.cpu.pc := by cases r <;> rfl
@[simp] theorem State.setReg_cpu_ime (s : State) (r : Reg8) (v : Byte) :
    (s.setReg r v).cpu.ime = s.cpu.ime := by cases r <;> rfl
@[simp] theorem State.setReg_cpu_imePending (s : State) (r : Reg8) (v : Byte) :
    (s.setReg r v).cpu.imePending = s.cpu.imePending := by cases r <;> rfl
@[simp] theorem State.setReg_cpu_haltBug (s : State) (r : Reg8) (v : Byte) :
    (s.setReg r v).cpu.haltBug = s.cpu.haltBug := by cases r <;> rfl
@[simp] theorem State.setReg_cpu_run (s : State) (r : Reg8) (v : Byte) :
    (s.setReg r v).cpu.run = s.cpu.run := by cases r <;> rfl
@[simp] theorem State.setReg_cpu_cycles (s : State) (r : Reg8) (v : Byte) :
    (s.setReg r v).cpu.cycles = s.cpu.cycles := by cases r <;> rfl
@[simp] theorem State.setReg_bus (s : State) (r : Reg8) (v : Byte) :
    (s.setReg r v).bus = s.bus := by cases r <;> rfl
@[simp] theorem State.setReg_irqs (s : State) (r : Reg8) (v : Byte) :
    (s.setReg r v).irqs = s.irqs := by cases r <;> rfl
@[simp] theorem State.setReg_params (s : State) (r : Reg8) (v : Byte) :
    (s.setReg r v).params = s.params := by cases r <;> rfl
@[simp] theorem State.setReg_out (s : State) (r : Reg8) (v : Byte) :
    (s.setReg r v).out = s.out := by cases r <;> rfl

/-- Reading a register after one is written. -/
@[simp] theorem State.reg_setReg (s : State) (r q : Reg8) (v : Byte) :
    (s.setReg r v).reg q = if q = r then v else s.reg q := by
  cases r <;> cases q <;> rfl

/-! ### `setPc` -/

@[simp] theorem State.setPc_cpu_a (s : State) (v : Word) :
    (s.setPc v).cpu.a = s.cpu.a := rfl
@[simp] theorem State.setPc_cpu_f (s : State) (v : Word) :
    (s.setPc v).cpu.f = s.cpu.f := rfl
@[simp] theorem State.setPc_cpu_b (s : State) (v : Word) :
    (s.setPc v).cpu.b = s.cpu.b := rfl
@[simp] theorem State.setPc_cpu_c (s : State) (v : Word) :
    (s.setPc v).cpu.c = s.cpu.c := rfl
@[simp] theorem State.setPc_cpu_d (s : State) (v : Word) :
    (s.setPc v).cpu.d = s.cpu.d := rfl
@[simp] theorem State.setPc_cpu_e (s : State) (v : Word) :
    (s.setPc v).cpu.e = s.cpu.e := rfl
@[simp] theorem State.setPc_cpu_h (s : State) (v : Word) :
    (s.setPc v).cpu.h = s.cpu.h := rfl
@[simp] theorem State.setPc_cpu_l (s : State) (v : Word) :
    (s.setPc v).cpu.l = s.cpu.l := rfl
@[simp] theorem State.setPc_cpu_sp (s : State) (v : Word) :
    (s.setPc v).cpu.sp = s.cpu.sp := rfl
@[simp] theorem State.setPc_cpu_pc (s : State) (v : Word) :
    (s.setPc v).cpu.pc = v := rfl
@[simp] theorem State.setPc_cpu_ime (s : State) (v : Word) :
    (s.setPc v).cpu.ime = s.cpu.ime := rfl
@[simp] theorem State.setPc_cpu_imePending (s : State) (v : Word) :
    (s.setPc v).cpu.imePending = s.cpu.imePending := rfl
@[simp] theorem State.setPc_cpu_haltBug (s : State) (v : Word) :
    (s.setPc v).cpu.haltBug = s.cpu.haltBug := rfl
@[simp] theorem State.setPc_cpu_run (s : State) (v : Word) :
    (s.setPc v).cpu.run = s.cpu.run := rfl
@[simp] theorem State.setPc_cpu_cycles (s : State) (v : Word) :
    (s.setPc v).cpu.cycles = s.cpu.cycles := rfl
@[simp] theorem State.setPc_bus (s : State) (v : Word) :
    (s.setPc v).bus = s.bus := rfl
@[simp] theorem State.setPc_irqs (s : State) (v : Word) :
    (s.setPc v).irqs = s.irqs := rfl
@[simp] theorem State.setPc_params (s : State) (v : Word) :
    (s.setPc v).params = s.params := rfl
@[simp] theorem State.setPc_out (s : State) (v : Word) :
    (s.setPc v).out = s.out := rfl

@[simp] theorem State.setPc_pc (s : State) (v : Word) : (s.setPc v).pc = v := rfl

/-! ### `setR16` -/

@[simp] theorem State.setR16_cpu_a (s : State) (rr : R16) (v : Word) :
    (s.setR16 rr v).cpu.a = s.cpu.a := by cases rr <;> rfl
@[simp] theorem State.setR16_cpu_f (s : State) (rr : R16) (v : Word) :
    (s.setR16 rr v).cpu.f = s.cpu.f := by cases rr <;> rfl
@[simp] theorem State.setR16_cpu_b (s : State) (rr : R16) (v : Word) :
    (s.setR16 rr v).cpu.b = if rr = .bc then hiByte v else s.cpu.b := by cases rr <;> rfl
@[simp] theorem State.setR16_cpu_c (s : State) (rr : R16) (v : Word) :
    (s.setR16 rr v).cpu.c = if rr = .bc then loByte v else s.cpu.c := by cases rr <;> rfl
@[simp] theorem State.setR16_cpu_d (s : State) (rr : R16) (v : Word) :
    (s.setR16 rr v).cpu.d = if rr = .de then hiByte v else s.cpu.d := by cases rr <;> rfl
@[simp] theorem State.setR16_cpu_e (s : State) (rr : R16) (v : Word) :
    (s.setR16 rr v).cpu.e = if rr = .de then loByte v else s.cpu.e := by cases rr <;> rfl
@[simp] theorem State.setR16_cpu_h (s : State) (rr : R16) (v : Word) :
    (s.setR16 rr v).cpu.h = if rr = .hl then hiByte v else s.cpu.h := by cases rr <;> rfl
@[simp] theorem State.setR16_cpu_l (s : State) (rr : R16) (v : Word) :
    (s.setR16 rr v).cpu.l = if rr = .hl then loByte v else s.cpu.l := by cases rr <;> rfl
@[simp] theorem State.setR16_cpu_sp (s : State) (rr : R16) (v : Word) :
    (s.setR16 rr v).cpu.sp = if rr = .sp then v else s.cpu.sp := by cases rr <;> rfl
@[simp] theorem State.setR16_cpu_pc (s : State) (rr : R16) (v : Word) :
    (s.setR16 rr v).cpu.pc = s.cpu.pc := by cases rr <;> rfl
@[simp] theorem State.setR16_cpu_ime (s : State) (rr : R16) (v : Word) :
    (s.setR16 rr v).cpu.ime = s.cpu.ime := by cases rr <;> rfl
@[simp] theorem State.setR16_cpu_imePending (s : State) (rr : R16) (v : Word) :
    (s.setR16 rr v).cpu.imePending = s.cpu.imePending := by cases rr <;> rfl
@[simp] theorem State.setR16_cpu_haltBug (s : State) (rr : R16) (v : Word) :
    (s.setR16 rr v).cpu.haltBug = s.cpu.haltBug := by cases rr <;> rfl
@[simp] theorem State.setR16_cpu_run (s : State) (rr : R16) (v : Word) :
    (s.setR16 rr v).cpu.run = s.cpu.run := by cases rr <;> rfl
@[simp] theorem State.setR16_cpu_cycles (s : State) (rr : R16) (v : Word) :
    (s.setR16 rr v).cpu.cycles = s.cpu.cycles := by cases rr <;> rfl
@[simp] theorem State.setR16_bus (s : State) (rr : R16) (v : Word) :
    (s.setR16 rr v).bus = s.bus := by cases rr <;> rfl
@[simp] theorem State.setR16_irqs (s : State) (rr : R16) (v : Word) :
    (s.setR16 rr v).irqs = s.irqs := by cases rr <;> rfl
@[simp] theorem State.setR16_params (s : State) (rr : R16) (v : Word) :
    (s.setR16 rr v).params = s.params := by cases rr <;> rfl
@[simp] theorem State.setR16_out (s : State) (rr : R16) (v : Word) :
    (s.setR16 rr v).out = s.out := by cases rr <;> rfl

/-! ### `setR16Stk` -/

@[simp] theorem State.setR16Stk_cpu_a (s : State) (rr : R16Stk) (v : Word) :
    (s.setR16Stk rr v).cpu.a = if rr = .af then hiByte v else s.cpu.a := by cases rr <;> rfl
@[simp] theorem State.setR16Stk_cpu_f (s : State) (rr : R16Stk) (v : Word) :
    (s.setR16Stk rr v).cpu.f = if rr = .af then (loByte v).extractLsb' 4 4 ++ 0#4 else s.cpu.f := by cases rr <;> rfl
@[simp] theorem State.setR16Stk_cpu_b (s : State) (rr : R16Stk) (v : Word) :
    (s.setR16Stk rr v).cpu.b = if rr = .bc then hiByte v else s.cpu.b := by cases rr <;> rfl
@[simp] theorem State.setR16Stk_cpu_c (s : State) (rr : R16Stk) (v : Word) :
    (s.setR16Stk rr v).cpu.c = if rr = .bc then loByte v else s.cpu.c := by cases rr <;> rfl
@[simp] theorem State.setR16Stk_cpu_d (s : State) (rr : R16Stk) (v : Word) :
    (s.setR16Stk rr v).cpu.d = if rr = .de then hiByte v else s.cpu.d := by cases rr <;> rfl
@[simp] theorem State.setR16Stk_cpu_e (s : State) (rr : R16Stk) (v : Word) :
    (s.setR16Stk rr v).cpu.e = if rr = .de then loByte v else s.cpu.e := by cases rr <;> rfl
@[simp] theorem State.setR16Stk_cpu_h (s : State) (rr : R16Stk) (v : Word) :
    (s.setR16Stk rr v).cpu.h = if rr = .hl then hiByte v else s.cpu.h := by cases rr <;> rfl
@[simp] theorem State.setR16Stk_cpu_l (s : State) (rr : R16Stk) (v : Word) :
    (s.setR16Stk rr v).cpu.l = if rr = .hl then loByte v else s.cpu.l := by cases rr <;> rfl
@[simp] theorem State.setR16Stk_cpu_sp (s : State) (rr : R16Stk) (v : Word) :
    (s.setR16Stk rr v).cpu.sp = s.cpu.sp := by cases rr <;> rfl
@[simp] theorem State.setR16Stk_cpu_pc (s : State) (rr : R16Stk) (v : Word) :
    (s.setR16Stk rr v).cpu.pc = s.cpu.pc := by cases rr <;> rfl
@[simp] theorem State.setR16Stk_cpu_ime (s : State) (rr : R16Stk) (v : Word) :
    (s.setR16Stk rr v).cpu.ime = s.cpu.ime := by cases rr <;> rfl
@[simp] theorem State.setR16Stk_cpu_imePending (s : State) (rr : R16Stk) (v : Word) :
    (s.setR16Stk rr v).cpu.imePending = s.cpu.imePending := by cases rr <;> rfl
@[simp] theorem State.setR16Stk_cpu_haltBug (s : State) (rr : R16Stk) (v : Word) :
    (s.setR16Stk rr v).cpu.haltBug = s.cpu.haltBug := by cases rr <;> rfl
@[simp] theorem State.setR16Stk_cpu_run (s : State) (rr : R16Stk) (v : Word) :
    (s.setR16Stk rr v).cpu.run = s.cpu.run := by cases rr <;> rfl
@[simp] theorem State.setR16Stk_cpu_cycles (s : State) (rr : R16Stk) (v : Word) :
    (s.setR16Stk rr v).cpu.cycles = s.cpu.cycles := by cases rr <;> rfl
@[simp] theorem State.setR16Stk_bus (s : State) (rr : R16Stk) (v : Word) :
    (s.setR16Stk rr v).bus = s.bus := by cases rr <;> rfl
@[simp] theorem State.setR16Stk_irqs (s : State) (rr : R16Stk) (v : Word) :
    (s.setR16Stk rr v).irqs = s.irqs := by cases rr <;> rfl
@[simp] theorem State.setR16Stk_params (s : State) (rr : R16Stk) (v : Word) :
    (s.setR16Stk rr v).params = s.params := by cases rr <;> rfl
@[simp] theorem State.setR16Stk_out (s : State) (rr : R16Stk) (v : Word) :
    (s.setR16Stk rr v).out = s.out := by cases rr <;> rfl

/-! ### `stepHL` -/

@[simp] theorem State.stepHL_cpu_a (s : State) (m : R16Mem) :
    (s.stepHL m).cpu.a = s.cpu.a := by cases m <;> rfl
@[simp] theorem State.stepHL_cpu_f (s : State) (m : R16Mem) :
    (s.stepHL m).cpu.f = s.cpu.f := by cases m <;> rfl
@[simp] theorem State.stepHL_cpu_b (s : State) (m : R16Mem) :
    (s.stepHL m).cpu.b = s.cpu.b := by cases m <;> rfl
@[simp] theorem State.stepHL_cpu_c (s : State) (m : R16Mem) :
    (s.stepHL m).cpu.c = s.cpu.c := by cases m <;> rfl
@[simp] theorem State.stepHL_cpu_d (s : State) (m : R16Mem) :
    (s.stepHL m).cpu.d = s.cpu.d := by cases m <;> rfl
@[simp] theorem State.stepHL_cpu_e (s : State) (m : R16Mem) :
    (s.stepHL m).cpu.e = s.cpu.e := by cases m <;> rfl
@[simp] theorem State.stepHL_cpu_sp (s : State) (m : R16Mem) :
    (s.stepHL m).cpu.sp = s.cpu.sp := by cases m <;> rfl
@[simp] theorem State.stepHL_cpu_pc (s : State) (m : R16Mem) :
    (s.stepHL m).cpu.pc = s.cpu.pc := by cases m <;> rfl
@[simp] theorem State.stepHL_cpu_ime (s : State) (m : R16Mem) :
    (s.stepHL m).cpu.ime = s.cpu.ime := by cases m <;> rfl
@[simp] theorem State.stepHL_cpu_imePending (s : State) (m : R16Mem) :
    (s.stepHL m).cpu.imePending = s.cpu.imePending := by cases m <;> rfl
@[simp] theorem State.stepHL_cpu_haltBug (s : State) (m : R16Mem) :
    (s.stepHL m).cpu.haltBug = s.cpu.haltBug := by cases m <;> rfl
@[simp] theorem State.stepHL_cpu_run (s : State) (m : R16Mem) :
    (s.stepHL m).cpu.run = s.cpu.run := by cases m <;> rfl
@[simp] theorem State.stepHL_cpu_cycles (s : State) (m : R16Mem) :
    (s.stepHL m).cpu.cycles = s.cpu.cycles := by cases m <;> rfl
@[simp] theorem State.stepHL_bus (s : State) (m : R16Mem) :
    (s.stepHL m).bus = s.bus := by cases m <;> rfl
@[simp] theorem State.stepHL_irqs (s : State) (m : R16Mem) :
    (s.stepHL m).irqs = s.irqs := by cases m <;> rfl
@[simp] theorem State.stepHL_params (s : State) (m : R16Mem) :
    (s.stepHL m).params = s.params := by cases m <;> rfl
@[simp] theorem State.stepHL_out (s : State) (m : R16Mem) :
    (s.stepHL m).out = s.out := by cases m <;> rfl

/-! ### `setFlags` -/

@[simp] theorem State.setFlags_cpu_a (s : State) (f : Flags) :
    (s.setFlags f).cpu.a = s.cpu.a := rfl
@[simp] theorem State.setFlags_cpu_b (s : State) (f : Flags) :
    (s.setFlags f).cpu.b = s.cpu.b := rfl
@[simp] theorem State.setFlags_cpu_c (s : State) (f : Flags) :
    (s.setFlags f).cpu.c = s.cpu.c := rfl
@[simp] theorem State.setFlags_cpu_d (s : State) (f : Flags) :
    (s.setFlags f).cpu.d = s.cpu.d := rfl
@[simp] theorem State.setFlags_cpu_e (s : State) (f : Flags) :
    (s.setFlags f).cpu.e = s.cpu.e := rfl
@[simp] theorem State.setFlags_cpu_h (s : State) (f : Flags) :
    (s.setFlags f).cpu.h = s.cpu.h := rfl
@[simp] theorem State.setFlags_cpu_l (s : State) (f : Flags) :
    (s.setFlags f).cpu.l = s.cpu.l := rfl
@[simp] theorem State.setFlags_cpu_sp (s : State) (f : Flags) :
    (s.setFlags f).cpu.sp = s.cpu.sp := rfl
@[simp] theorem State.setFlags_cpu_pc (s : State) (f : Flags) :
    (s.setFlags f).cpu.pc = s.cpu.pc := rfl
@[simp] theorem State.setFlags_cpu_ime (s : State) (f : Flags) :
    (s.setFlags f).cpu.ime = s.cpu.ime := rfl
@[simp] theorem State.setFlags_cpu_imePending (s : State) (f : Flags) :
    (s.setFlags f).cpu.imePending = s.cpu.imePending := rfl
@[simp] theorem State.setFlags_cpu_haltBug (s : State) (f : Flags) :
    (s.setFlags f).cpu.haltBug = s.cpu.haltBug := rfl
@[simp] theorem State.setFlags_cpu_run (s : State) (f : Flags) :
    (s.setFlags f).cpu.run = s.cpu.run := rfl
@[simp] theorem State.setFlags_cpu_cycles (s : State) (f : Flags) :
    (s.setFlags f).cpu.cycles = s.cpu.cycles := rfl
@[simp] theorem State.setFlags_bus (s : State) (f : Flags) :
    (s.setFlags f).bus = s.bus := rfl
@[simp] theorem State.setFlags_irqs (s : State) (f : Flags) :
    (s.setFlags f).irqs = s.irqs := rfl
@[simp] theorem State.setFlags_params (s : State) (f : Flags) :
    (s.setFlags f).params = s.params := rfl
@[simp] theorem State.setFlags_out (s : State) (f : Flags) :
    (s.setFlags f).out = s.out := rfl

/-! ### `setIme` -/

@[simp] theorem State.setIme_cpu_a (s : State) (i p : Bool) :
    (s.setIme i p).cpu.a = s.cpu.a := rfl
@[simp] theorem State.setIme_cpu_f (s : State) (i p : Bool) :
    (s.setIme i p).cpu.f = s.cpu.f := rfl
@[simp] theorem State.setIme_cpu_b (s : State) (i p : Bool) :
    (s.setIme i p).cpu.b = s.cpu.b := rfl
@[simp] theorem State.setIme_cpu_c (s : State) (i p : Bool) :
    (s.setIme i p).cpu.c = s.cpu.c := rfl
@[simp] theorem State.setIme_cpu_d (s : State) (i p : Bool) :
    (s.setIme i p).cpu.d = s.cpu.d := rfl
@[simp] theorem State.setIme_cpu_e (s : State) (i p : Bool) :
    (s.setIme i p).cpu.e = s.cpu.e := rfl
@[simp] theorem State.setIme_cpu_h (s : State) (i p : Bool) :
    (s.setIme i p).cpu.h = s.cpu.h := rfl
@[simp] theorem State.setIme_cpu_l (s : State) (i p : Bool) :
    (s.setIme i p).cpu.l = s.cpu.l := rfl
@[simp] theorem State.setIme_cpu_sp (s : State) (i p : Bool) :
    (s.setIme i p).cpu.sp = s.cpu.sp := rfl
@[simp] theorem State.setIme_cpu_pc (s : State) (i p : Bool) :
    (s.setIme i p).cpu.pc = s.cpu.pc := rfl
@[simp] theorem State.setIme_cpu_ime (s : State) (i p : Bool) :
    (s.setIme i p).cpu.ime = i := rfl
@[simp] theorem State.setIme_cpu_imePending (s : State) (i p : Bool) :
    (s.setIme i p).cpu.imePending = p := rfl
@[simp] theorem State.setIme_cpu_haltBug (s : State) (i p : Bool) :
    (s.setIme i p).cpu.haltBug = s.cpu.haltBug := rfl
@[simp] theorem State.setIme_cpu_run (s : State) (i p : Bool) :
    (s.setIme i p).cpu.run = s.cpu.run := rfl
@[simp] theorem State.setIme_cpu_cycles (s : State) (i p : Bool) :
    (s.setIme i p).cpu.cycles = s.cpu.cycles := rfl
@[simp] theorem State.setIme_bus (s : State) (i p : Bool) :
    (s.setIme i p).bus = s.bus := rfl
@[simp] theorem State.setIme_irqs (s : State) (i p : Bool) :
    (s.setIme i p).irqs = s.irqs := rfl
@[simp] theorem State.setIme_params (s : State) (i p : Bool) :
    (s.setIme i p).params = s.params := rfl
@[simp] theorem State.setIme_out (s : State) (i p : Bool) :
    (s.setIme i p).out = s.out := rfl

/-! ### `setHaltBug` -/

@[simp] theorem State.setHaltBug_cpu_a (s : State) (b : Bool) :
    (s.setHaltBug b).cpu.a = s.cpu.a := rfl
@[simp] theorem State.setHaltBug_cpu_f (s : State) (b : Bool) :
    (s.setHaltBug b).cpu.f = s.cpu.f := rfl
@[simp] theorem State.setHaltBug_cpu_b (s : State) (b : Bool) :
    (s.setHaltBug b).cpu.b = s.cpu.b := rfl
@[simp] theorem State.setHaltBug_cpu_c (s : State) (b : Bool) :
    (s.setHaltBug b).cpu.c = s.cpu.c := rfl
@[simp] theorem State.setHaltBug_cpu_d (s : State) (b : Bool) :
    (s.setHaltBug b).cpu.d = s.cpu.d := rfl
@[simp] theorem State.setHaltBug_cpu_e (s : State) (b : Bool) :
    (s.setHaltBug b).cpu.e = s.cpu.e := rfl
@[simp] theorem State.setHaltBug_cpu_h (s : State) (b : Bool) :
    (s.setHaltBug b).cpu.h = s.cpu.h := rfl
@[simp] theorem State.setHaltBug_cpu_l (s : State) (b : Bool) :
    (s.setHaltBug b).cpu.l = s.cpu.l := rfl
@[simp] theorem State.setHaltBug_cpu_sp (s : State) (b : Bool) :
    (s.setHaltBug b).cpu.sp = s.cpu.sp := rfl
@[simp] theorem State.setHaltBug_cpu_pc (s : State) (b : Bool) :
    (s.setHaltBug b).cpu.pc = s.cpu.pc := rfl
@[simp] theorem State.setHaltBug_cpu_ime (s : State) (b : Bool) :
    (s.setHaltBug b).cpu.ime = s.cpu.ime := rfl
@[simp] theorem State.setHaltBug_cpu_imePending (s : State) (b : Bool) :
    (s.setHaltBug b).cpu.imePending = s.cpu.imePending := rfl
@[simp] theorem State.setHaltBug_cpu_haltBug (s : State) (b : Bool) :
    (s.setHaltBug b).cpu.haltBug = b := rfl
@[simp] theorem State.setHaltBug_cpu_run (s : State) (b : Bool) :
    (s.setHaltBug b).cpu.run = s.cpu.run := rfl
@[simp] theorem State.setHaltBug_cpu_cycles (s : State) (b : Bool) :
    (s.setHaltBug b).cpu.cycles = s.cpu.cycles := rfl
@[simp] theorem State.setHaltBug_bus (s : State) (b : Bool) :
    (s.setHaltBug b).bus = s.bus := rfl
@[simp] theorem State.setHaltBug_irqs (s : State) (b : Bool) :
    (s.setHaltBug b).irqs = s.irqs := rfl
@[simp] theorem State.setHaltBug_params (s : State) (b : Bool) :
    (s.setHaltBug b).params = s.params := rfl
@[simp] theorem State.setHaltBug_out (s : State) (b : Bool) :
    (s.setHaltBug b).out = s.out := rfl

/-! ### `setRun` -/

@[simp] theorem State.setRun_cpu_a (s : State) (r : RunState) :
    (s.setRun r).cpu.a = s.cpu.a := rfl
@[simp] theorem State.setRun_cpu_f (s : State) (r : RunState) :
    (s.setRun r).cpu.f = s.cpu.f := rfl
@[simp] theorem State.setRun_cpu_b (s : State) (r : RunState) :
    (s.setRun r).cpu.b = s.cpu.b := rfl
@[simp] theorem State.setRun_cpu_c (s : State) (r : RunState) :
    (s.setRun r).cpu.c = s.cpu.c := rfl
@[simp] theorem State.setRun_cpu_d (s : State) (r : RunState) :
    (s.setRun r).cpu.d = s.cpu.d := rfl
@[simp] theorem State.setRun_cpu_e (s : State) (r : RunState) :
    (s.setRun r).cpu.e = s.cpu.e := rfl
@[simp] theorem State.setRun_cpu_h (s : State) (r : RunState) :
    (s.setRun r).cpu.h = s.cpu.h := rfl
@[simp] theorem State.setRun_cpu_l (s : State) (r : RunState) :
    (s.setRun r).cpu.l = s.cpu.l := rfl
@[simp] theorem State.setRun_cpu_sp (s : State) (r : RunState) :
    (s.setRun r).cpu.sp = s.cpu.sp := rfl
@[simp] theorem State.setRun_cpu_pc (s : State) (r : RunState) :
    (s.setRun r).cpu.pc = s.cpu.pc := rfl
@[simp] theorem State.setRun_cpu_ime (s : State) (r : RunState) :
    (s.setRun r).cpu.ime = s.cpu.ime := rfl
@[simp] theorem State.setRun_cpu_imePending (s : State) (r : RunState) :
    (s.setRun r).cpu.imePending = s.cpu.imePending := rfl
@[simp] theorem State.setRun_cpu_haltBug (s : State) (r : RunState) :
    (s.setRun r).cpu.haltBug = s.cpu.haltBug := rfl
@[simp] theorem State.setRun_cpu_run (s : State) (r : RunState) :
    (s.setRun r).cpu.run = r := rfl
@[simp] theorem State.setRun_cpu_cycles (s : State) (r : RunState) :
    (s.setRun r).cpu.cycles = s.cpu.cycles := rfl
@[simp] theorem State.setRun_bus (s : State) (r : RunState) :
    (s.setRun r).bus = s.bus := rfl
@[simp] theorem State.setRun_irqs (s : State) (r : RunState) :
    (s.setRun r).irqs = s.irqs := rfl
@[simp] theorem State.setRun_params (s : State) (r : RunState) :
    (s.setRun r).params = s.params := rfl
@[simp] theorem State.setRun_out (s : State) (r : RunState) :
    (s.setRun r).out = s.out := rfl

/-! ### `memWrite` -/

@[simp] theorem State.memWrite_cpu_a (s : State) (a : Word) (v : Byte) :
    (s.memWrite a v).cpu.a = s.cpu.a := rfl
@[simp] theorem State.memWrite_cpu_f (s : State) (a : Word) (v : Byte) :
    (s.memWrite a v).cpu.f = s.cpu.f := rfl
@[simp] theorem State.memWrite_cpu_b (s : State) (a : Word) (v : Byte) :
    (s.memWrite a v).cpu.b = s.cpu.b := rfl
@[simp] theorem State.memWrite_cpu_c (s : State) (a : Word) (v : Byte) :
    (s.memWrite a v).cpu.c = s.cpu.c := rfl
@[simp] theorem State.memWrite_cpu_d (s : State) (a : Word) (v : Byte) :
    (s.memWrite a v).cpu.d = s.cpu.d := rfl
@[simp] theorem State.memWrite_cpu_e (s : State) (a : Word) (v : Byte) :
    (s.memWrite a v).cpu.e = s.cpu.e := rfl
@[simp] theorem State.memWrite_cpu_h (s : State) (a : Word) (v : Byte) :
    (s.memWrite a v).cpu.h = s.cpu.h := rfl
@[simp] theorem State.memWrite_cpu_l (s : State) (a : Word) (v : Byte) :
    (s.memWrite a v).cpu.l = s.cpu.l := rfl
@[simp] theorem State.memWrite_cpu_sp (s : State) (a : Word) (v : Byte) :
    (s.memWrite a v).cpu.sp = s.cpu.sp := rfl
@[simp] theorem State.memWrite_cpu_pc (s : State) (a : Word) (v : Byte) :
    (s.memWrite a v).cpu.pc = s.cpu.pc := rfl
@[simp] theorem State.memWrite_cpu_ime (s : State) (a : Word) (v : Byte) :
    (s.memWrite a v).cpu.ime = s.cpu.ime := rfl
@[simp] theorem State.memWrite_cpu_imePending (s : State) (a : Word) (v : Byte) :
    (s.memWrite a v).cpu.imePending = s.cpu.imePending := rfl
@[simp] theorem State.memWrite_cpu_haltBug (s : State) (a : Word) (v : Byte) :
    (s.memWrite a v).cpu.haltBug = s.cpu.haltBug := rfl
@[simp] theorem State.memWrite_cpu_run (s : State) (a : Word) (v : Byte) :
    (s.memWrite a v).cpu.run = s.cpu.run := rfl
@[simp] theorem State.memWrite_cpu_cycles (s : State) (a : Word) (v : Byte) :
    (s.memWrite a v).cpu.cycles = s.cpu.cycles := rfl
@[simp] theorem State.memWrite_bus (s : State) (a : Word) (v : Byte) :
    (s.memWrite a v).bus = s.bus.afterWrite a v := rfl
@[simp] theorem State.memWrite_irqs (s : State) (a : Word) (v : Byte) :
    (s.memWrite a v).irqs = s.irqs := rfl
@[simp] theorem State.memWrite_params (s : State) (a : Word) (v : Byte) :
    (s.memWrite a v).params = s.params := rfl
@[simp] theorem State.memWrite_out (s : State) (a : Word) (v : Byte) :
    (s.memWrite a v).out = s.out := rfl

@[simp] theorem State.memWrite_cpu (s : State) (a : Word) (v : Byte) : (s.memWrite a v).cpu = s.cpu := rfl

/-! ### `memRead` -/

@[simp] theorem State.memRead_cpu_a (s : State) (a : Word) :
    ((s.memRead a).2).cpu.a = s.cpu.a := rfl
@[simp] theorem State.memRead_cpu_f (s : State) (a : Word) :
    ((s.memRead a).2).cpu.f = s.cpu.f := rfl
@[simp] theorem State.memRead_cpu_b (s : State) (a : Word) :
    ((s.memRead a).2).cpu.b = s.cpu.b := rfl
@[simp] theorem State.memRead_cpu_c (s : State) (a : Word) :
    ((s.memRead a).2).cpu.c = s.cpu.c := rfl
@[simp] theorem State.memRead_cpu_d (s : State) (a : Word) :
    ((s.memRead a).2).cpu.d = s.cpu.d := rfl
@[simp] theorem State.memRead_cpu_e (s : State) (a : Word) :
    ((s.memRead a).2).cpu.e = s.cpu.e := rfl
@[simp] theorem State.memRead_cpu_h (s : State) (a : Word) :
    ((s.memRead a).2).cpu.h = s.cpu.h := rfl
@[simp] theorem State.memRead_cpu_l (s : State) (a : Word) :
    ((s.memRead a).2).cpu.l = s.cpu.l := rfl
@[simp] theorem State.memRead_cpu_sp (s : State) (a : Word) :
    ((s.memRead a).2).cpu.sp = s.cpu.sp := rfl
@[simp] theorem State.memRead_cpu_pc (s : State) (a : Word) :
    ((s.memRead a).2).cpu.pc = s.cpu.pc := rfl
@[simp] theorem State.memRead_cpu_ime (s : State) (a : Word) :
    ((s.memRead a).2).cpu.ime = s.cpu.ime := rfl
@[simp] theorem State.memRead_cpu_imePending (s : State) (a : Word) :
    ((s.memRead a).2).cpu.imePending = s.cpu.imePending := rfl
@[simp] theorem State.memRead_cpu_haltBug (s : State) (a : Word) :
    ((s.memRead a).2).cpu.haltBug = s.cpu.haltBug := rfl
@[simp] theorem State.memRead_cpu_run (s : State) (a : Word) :
    ((s.memRead a).2).cpu.run = s.cpu.run := rfl
@[simp] theorem State.memRead_cpu_cycles (s : State) (a : Word) :
    ((s.memRead a).2).cpu.cycles = s.cpu.cycles := rfl
@[simp] theorem State.memRead_bus (s : State) (a : Word) :
    ((s.memRead a).2).bus = s.bus.afterRead a := rfl
@[simp] theorem State.memRead_irqs (s : State) (a : Word) :
    ((s.memRead a).2).irqs = s.irqs := rfl
@[simp] theorem State.memRead_params (s : State) (a : Word) :
    ((s.memRead a).2).params = s.params := rfl
@[simp] theorem State.memRead_out (s : State) (a : Word) :
    ((s.memRead a).2).out = s.out := rfl

@[simp] theorem State.memRead_cpu (s : State) (a : Word) : (s.memRead a).2.cpu = s.cpu := rfl
@[simp] theorem State.memRead_value (s : State) (a : Word) : (s.memRead a).1 = s.bus.answer a := rfl

/-! ### `addCycles` -/

@[simp] theorem State.addCycles_cpu_a (s : State) (n : Nat) :
    (s.addCycles n).cpu.a = s.cpu.a := rfl
@[simp] theorem State.addCycles_cpu_f (s : State) (n : Nat) :
    (s.addCycles n).cpu.f = s.cpu.f := rfl
@[simp] theorem State.addCycles_cpu_b (s : State) (n : Nat) :
    (s.addCycles n).cpu.b = s.cpu.b := rfl
@[simp] theorem State.addCycles_cpu_c (s : State) (n : Nat) :
    (s.addCycles n).cpu.c = s.cpu.c := rfl
@[simp] theorem State.addCycles_cpu_d (s : State) (n : Nat) :
    (s.addCycles n).cpu.d = s.cpu.d := rfl
@[simp] theorem State.addCycles_cpu_e (s : State) (n : Nat) :
    (s.addCycles n).cpu.e = s.cpu.e := rfl
@[simp] theorem State.addCycles_cpu_h (s : State) (n : Nat) :
    (s.addCycles n).cpu.h = s.cpu.h := rfl
@[simp] theorem State.addCycles_cpu_l (s : State) (n : Nat) :
    (s.addCycles n).cpu.l = s.cpu.l := rfl
@[simp] theorem State.addCycles_cpu_sp (s : State) (n : Nat) :
    (s.addCycles n).cpu.sp = s.cpu.sp := rfl
@[simp] theorem State.addCycles_cpu_pc (s : State) (n : Nat) :
    (s.addCycles n).cpu.pc = s.cpu.pc := rfl
@[simp] theorem State.addCycles_cpu_ime (s : State) (n : Nat) :
    (s.addCycles n).cpu.ime = s.cpu.ime := rfl
@[simp] theorem State.addCycles_cpu_imePending (s : State) (n : Nat) :
    (s.addCycles n).cpu.imePending = s.cpu.imePending := rfl
@[simp] theorem State.addCycles_cpu_haltBug (s : State) (n : Nat) :
    (s.addCycles n).cpu.haltBug = s.cpu.haltBug := rfl
@[simp] theorem State.addCycles_cpu_run (s : State) (n : Nat) :
    (s.addCycles n).cpu.run = s.cpu.run := rfl
@[simp] theorem State.addCycles_cpu_cycles (s : State) (n : Nat) :
    (s.addCycles n).cpu.cycles = s.cpu.cycles + n := rfl
@[simp] theorem State.addCycles_bus (s : State) (n : Nat) :
    (s.addCycles n).bus = s.bus := rfl
@[simp] theorem State.addCycles_irqs (s : State) (n : Nat) :
    (s.addCycles n).irqs = s.irqs := rfl
@[simp] theorem State.addCycles_params (s : State) (n : Nat) :
    (s.addCycles n).params = s.params := rfl
@[simp] theorem State.addCycles_out (s : State) (n : Nat) :
    (s.addCycles n).out = s.out := rfl

/-! ### `report` -/

@[simp] theorem State.report_cpu_a (s : State) (r : Report) :
    (s.report r).cpu.a = s.cpu.a := rfl
@[simp] theorem State.report_cpu_f (s : State) (r : Report) :
    (s.report r).cpu.f = s.cpu.f := rfl
@[simp] theorem State.report_cpu_b (s : State) (r : Report) :
    (s.report r).cpu.b = s.cpu.b := rfl
@[simp] theorem State.report_cpu_c (s : State) (r : Report) :
    (s.report r).cpu.c = s.cpu.c := rfl
@[simp] theorem State.report_cpu_d (s : State) (r : Report) :
    (s.report r).cpu.d = s.cpu.d := rfl
@[simp] theorem State.report_cpu_e (s : State) (r : Report) :
    (s.report r).cpu.e = s.cpu.e := rfl
@[simp] theorem State.report_cpu_h (s : State) (r : Report) :
    (s.report r).cpu.h = s.cpu.h := rfl
@[simp] theorem State.report_cpu_l (s : State) (r : Report) :
    (s.report r).cpu.l = s.cpu.l := rfl
@[simp] theorem State.report_cpu_sp (s : State) (r : Report) :
    (s.report r).cpu.sp = s.cpu.sp := rfl
@[simp] theorem State.report_cpu_pc (s : State) (r : Report) :
    (s.report r).cpu.pc = s.cpu.pc := rfl
@[simp] theorem State.report_cpu_ime (s : State) (r : Report) :
    (s.report r).cpu.ime = s.cpu.ime := rfl
@[simp] theorem State.report_cpu_imePending (s : State) (r : Report) :
    (s.report r).cpu.imePending = s.cpu.imePending := rfl
@[simp] theorem State.report_cpu_haltBug (s : State) (r : Report) :
    (s.report r).cpu.haltBug = s.cpu.haltBug := rfl
@[simp] theorem State.report_cpu_run (s : State) (r : Report) :
    (s.report r).cpu.run = s.cpu.run := rfl
@[simp] theorem State.report_cpu_cycles (s : State) (r : Report) :
    (s.report r).cpu.cycles = s.cpu.cycles := rfl
@[simp] theorem State.report_bus (s : State) (r : Report) :
    (s.report r).bus = s.bus := rfl
@[simp] theorem State.report_irqs (s : State) (r : Report) :
    (s.report r).irqs = s.irqs := rfl
@[simp] theorem State.report_params (s : State) (r : Report) :
    (s.report r).params = s.params := rfl
@[simp] theorem State.report_out (s : State) (r : Report) :
    (s.report r).out = r := rfl

@[simp] theorem State.report_cpu (s : State) (r : Report) : (s.report r).cpu = s.cpu := rfl

/-! ### `charge` -/

@[simp] theorem State.charge_cpu_a (s : State) (n : Nat) :
    (s.charge n).cpu.a = s.cpu.a := rfl
@[simp] theorem State.charge_cpu_f (s : State) (n : Nat) :
    (s.charge n).cpu.f = s.cpu.f := rfl
@[simp] theorem State.charge_cpu_b (s : State) (n : Nat) :
    (s.charge n).cpu.b = s.cpu.b := rfl
@[simp] theorem State.charge_cpu_c (s : State) (n : Nat) :
    (s.charge n).cpu.c = s.cpu.c := rfl
@[simp] theorem State.charge_cpu_d (s : State) (n : Nat) :
    (s.charge n).cpu.d = s.cpu.d := rfl
@[simp] theorem State.charge_cpu_e (s : State) (n : Nat) :
    (s.charge n).cpu.e = s.cpu.e := rfl
@[simp] theorem State.charge_cpu_h (s : State) (n : Nat) :
    (s.charge n).cpu.h = s.cpu.h := rfl
@[simp] theorem State.charge_cpu_l (s : State) (n : Nat) :
    (s.charge n).cpu.l = s.cpu.l := rfl
@[simp] theorem State.charge_cpu_sp (s : State) (n : Nat) :
    (s.charge n).cpu.sp = s.cpu.sp := rfl
@[simp] theorem State.charge_cpu_pc (s : State) (n : Nat) :
    (s.charge n).cpu.pc = s.cpu.pc := rfl
@[simp] theorem State.charge_cpu_ime (s : State) (n : Nat) :
    (s.charge n).cpu.ime = s.cpu.ime := rfl
@[simp] theorem State.charge_cpu_imePending (s : State) (n : Nat) :
    (s.charge n).cpu.imePending = s.cpu.imePending := rfl
@[simp] theorem State.charge_cpu_haltBug (s : State) (n : Nat) :
    (s.charge n).cpu.haltBug = s.cpu.haltBug := rfl
@[simp] theorem State.charge_cpu_run (s : State) (n : Nat) :
    (s.charge n).cpu.run = s.cpu.run := rfl
@[simp] theorem State.charge_cpu_cycles (s : State) (n : Nat) :
    (s.charge n).cpu.cycles = s.cpu.cycles + inUnit s.params.cycleUnit n := rfl
@[simp] theorem State.charge_bus (s : State) (n : Nat) :
    (s.charge n).bus = s.bus := rfl
@[simp] theorem State.charge_irqs (s : State) (n : Nat) :
    (s.charge n).irqs = s.irqs := rfl
@[simp] theorem State.charge_params (s : State) (n : Nat) :
    (s.charge n).params = s.params := rfl
@[simp] theorem State.charge_out (s : State) (n : Nat) :
    (s.charge n).out = .executed (inUnit s.params.cycleUnit n) := rfl

/-! ### The bus -/

@[simp] theorem Bus.afterRead_mem (u : Bus) (a : Word) : (u.afterRead a).mem = u.mem := rfl
@[simp] theorem Bus.afterRead_answers (u : Bus) (a : Word) :
    (u.afterRead a).answers = u.answers.tail := rfl
@[simp] theorem Bus.afterRead_log (u : Bus) (a : Word) :
    (u.afterRead a).log = u.log ++ [.read a (u.answer a)] := rfl
@[simp] theorem Bus.afterWrite_mem (u : Bus) (a : Word) (v : Byte) :
    (u.afterWrite a v).mem = Memory.write u.mem a.toNat v := rfl
@[simp] theorem Bus.afterWrite_answers (u : Bus) (a : Word) (v : Byte) :
    (u.afterWrite a v).answers = u.answers := rfl
@[simp] theorem Bus.afterWrite_log (u : Bus) (a : Word) (v : Byte) :
    (u.afterWrite a v).log = u.log ++ [.write a v] := rfl

/-- With no answer of a bus agent left, a read returns memory's byte. -/
theorem Bus.answer_of_ram {u : Bus} (h : u.answers = []) (a : Word) :
    u.answer a = Memory.read u.mem a.toNat := by
  simp [Bus.answer, h]

end Sys2Proof.Machine
end

