-- ==== Sys2Proof/Laws/Memory.lean ====
section
/-! SUPPORT. The laws of memory: a read after a write, at the same address and at another; and every
operation keeps the canonical form. -/

namespace Sys2Proof.Machine

@[simp] theorem Memory.read_nil (a : Nat) : Memory.read [] a = Memory.unlisted := rfl

theorem Memory.read_cons (k : Nat) (w : Byte) (t : Memory) (a : Nat) :
    Memory.read ((k, w) :: t) a = if k = a then w else Memory.read t a := rfl

/-- An address below every listed one is not listed. -/
theorem Memory.read_of_lt (m : Memory) (a : Nat) (h : ∀ c ∈ m, a < c.1) :
    Memory.read m a = Memory.unlisted := by
  induction m with
  | nil => rfl
  | cons c t ih =>
    obtain ⟨k, w⟩ := c
    have hk : a < k := h (k, w) (by simp)
    rw [Memory.read_cons, if_neg (by omega), ih fun c hc => h c (by simp [hc])]

/-- What `Memory.cons` makes of a read, where `t` does not list `a`. -/
theorem Memory.read_memory_cons (a : Nat) (v : Byte) (t : Memory) (b : Nat)
    (h : Memory.read t a = Memory.unlisted) :
    Memory.read (Memory.cons a v t) b = if a = b then v else Memory.read t b := by
  unfold Memory.cons
  split
  · split
    · subst_vars; rw [h]
    · rfl
  · exact Memory.read_cons a v t b

/-- A write in a canonical memory is seen at its address and nowhere else. -/
theorem Memory.read_write (m : Memory) (hm : m.Wf) (a b : Nat) (v : Byte) :
    Memory.read (Memory.write m a v) b = if a = b then v else Memory.read m b := by
  induction m with
  | nil => exact Memory.read_memory_cons a v [] b rfl
  | cons c t ih =>
    obtain ⟨k, w⟩ := c
    obtain ⟨hp, hc⟩ := hm
    have ht : Memory.Wf t := ⟨(List.pairwise_cons.1 hp).2, fun c h => hc c (by simp [h])⟩
    have hlt : ∀ c ∈ t, k < c.1 := fun c h => (List.pairwise_cons.1 hp).1 c h
    unfold Memory.write
    split
    · rename_i hak
      refine Memory.read_memory_cons a v _ b (Memory.read_of_lt _ a fun c h => ?_)
      rcases List.mem_cons.1 h with rfl | h
      · exact hak
      · exact lt_trans hak (hlt c h)
    · split
      · subst_vars
        rw [Memory.read_memory_cons k v t b (Memory.read_of_lt t k hlt), Memory.read_cons]
        split <;> rfl
      · rename_i hak hne
        rw [Memory.read_cons, ih ht, Memory.read_cons]
        split <;> split <;> simp_all

theorem Memory.wf_nil : Memory.Wf [] := ⟨List.Pairwise.nil, by simp⟩

/-- Membership after `Memory.cons`. -/
theorem Memory.mem_memory_cons {a : Nat} {v : Byte} {t : Memory} {c : Host.Cell}
    (h : c ∈ Memory.cons a v t) : (c = (a, v) ∧ v ≠ Memory.unlisted) ∨ c ∈ t := by
  unfold Memory.cons at h
  split at h
  · exact .inr h
  · rename_i hv
    exact (List.mem_cons.1 h).imp_left fun e => ⟨e, hv⟩

/-- `Memory.cons` keeps the canonical form below the addresses of `t`. -/
theorem Memory.wf_memory_cons {a : Nat} {v : Byte} {t : Memory} (ht : Memory.Wf t)
    (ha : a < 0x10000) (hlt : ∀ c ∈ t, a < c.1) : Memory.Wf (Memory.cons a v t) := by
  unfold Memory.cons
  split
  · exact ht
  · refine ⟨List.pairwise_cons.2 ⟨hlt, ht.1⟩, fun c h => ?_⟩
    rcases List.mem_cons.1 h with rfl | h
    · exact ⟨ha, ‹_›⟩
    · exact ht.2 c h

/-- A write lists no address but those listed before and its own. -/
theorem Memory.mem_write {m : Memory} {a : Nat} {v : Byte} {c : Host.Cell}
    (h : c ∈ Memory.write m a v) : c.1 = a ∨ c ∈ m := by
  induction m with
  | nil => rcases Memory.mem_memory_cons h with ⟨rfl, _⟩ | h <;> simp_all
  | cons d t ih =>
    obtain ⟨k, w⟩ := d
    unfold Memory.write at h
    split at h
    · rcases Memory.mem_memory_cons h with ⟨rfl, _⟩ | h <;> simp_all
    · split at h
      · rcases Memory.mem_memory_cons h with ⟨rfl, _⟩ | h <;> simp_all
      · rcases List.mem_cons.1 h with rfl | h
        · simp
        · rcases ih h with h | h <;> simp_all

/-- Every write inside the address space keeps the canonical form. -/
theorem Memory.write_wf (m : Memory) (hm : m.Wf) (a : Nat) (ha : a < 0x10000) (v : Byte) :
    (Memory.write m a v).Wf := by
  induction m with
  | nil => exact Memory.wf_memory_cons Memory.wf_nil ha (by simp)
  | cons c t ih =>
    obtain ⟨k, w⟩ := c
    obtain ⟨hp, hc⟩ := hm
    have ht : Memory.Wf t := ⟨(List.pairwise_cons.1 hp).2, fun c h => hc c (by simp [h])⟩
    have hlt : ∀ c ∈ t, k < c.1 := fun c h => (List.pairwise_cons.1 hp).1 c h
    unfold Memory.write
    split
    · rename_i hak
      refine Memory.wf_memory_cons ⟨hp, hc⟩ ha fun c h => ?_
      rcases List.mem_cons.1 h with rfl | h
      · exact hak
      · exact lt_trans hak (hlt c h)
    · split
      · subst_vars
        exact Memory.wf_memory_cons ht ha hlt
      · rename_i hak hne
        refine ⟨List.pairwise_cons.2 ⟨fun c h => ?_, (ih ht).1⟩, fun c h => ?_⟩
        · rcases Memory.mem_write h with h | h
          · show k < c.1; omega
          · exact hlt c h
        · rcases List.mem_cons.1 h with rfl | h
          · exact hc _ (by simp)
          · exact (ih ht).2 c h

/-- A bus write keeps the canonical form. -/
theorem Bus.afterWrite_wf (u : Bus) (h : u.mem.Wf) (a : Word) (v : Byte) :
    (u.afterWrite a v).mem.Wf :=
  Memory.write_wf u.mem h a.toNat a.isLt v

/-- A bus write is seen at its address and nowhere else. -/
theorem Bus.read_afterWrite (u : Bus) (h : u.mem.Wf) (a b : Word) (v : Byte) :
    Memory.read (u.afterWrite a v).mem b.toNat = if a = b then v else Memory.read u.mem b.toNat := by
  rw [Bus.afterWrite_mem, Memory.read_write u.mem h]
  simp [BitVec.toNat_inj]

end Sys2Proof.Machine
end

