-- ==== Sys2Proof/Laws/Ops.lean ====
section
/-! SUPPORT. One lemma for each shared operation that says everything it does. -/

namespace Sys2Proof.Machine

/-! ### Bytes and pairs -/

@[simp] theorem hiByte_joinBytes (hi lo : Byte) : hiByte (joinBytes hi lo) = hi := by
  ext i hi'
  simp only [hiByte, joinBytes, BitVec.getElem_extractLsb', BitVec.getLsbD_append]
  rw [if_neg (by omega)]
  simp [BitVec.getLsbD_eq_getElem hi']

@[simp] theorem loByte_joinBytes (hi lo : Byte) : loByte (joinBytes hi lo) = lo := by
  ext i hi'
  simp only [loByte, joinBytes, BitVec.getElem_extractLsb', BitVec.getLsbD_append]
  rw [if_pos (by omega)]
  simp [BitVec.getLsbD_eq_getElem hi']

@[simp] theorem joinBytes_hi_lo (w : Word) : joinBytes (hiByte w) (loByte w) = w := by
  refine BitVec.eq_of_getLsbD_eq fun i hi => ?_
  simp only [joinBytes, hiByte, loByte, BitVec.getLsbD_append, BitVec.getLsbD_extractLsb']
  split
  · simp [*]
  · rw [show 8 + (i - 8) = i by omega]
    simp [show i - 8 < 8 by omega]

theorem sub_one_sub_one (w : Word) : w - 1#16 - 1#16 = w - 2#16 := by bv_omega

theorem add_one_add_one (w : Word) : w + 1#16 + 1#16 = w + 2#16 := by bv_omega

/-! ### Stack -/

/-- R430: SP drops by 2 and two bytes are written, the high one first at SP - 1. -/
theorem State.push16_eq (s : State) (v : Word) :
    s.push16 v =
      { s with
        cpu := { s.cpu with sp := s.cpu.sp - 2 }
        bus := (s.bus.afterWrite (s.cpu.sp - 1) (hiByte v)).afterWrite (s.cpu.sp - 2) (loByte v) } := by
  simp [State.push16, State.setR16, State.r16, State.memWrite, sub_one_sub_one]

/-- R431: the value popped: the byte at SP is the low one. -/
theorem State.pop16_value (s : State) :
    s.pop16.1 = joinBytes ((s.bus.afterRead s.cpu.sp).answer (s.cpu.sp + 1)) (s.bus.answer s.cpu.sp) :=
  rfl

/-- R431: SP rises by 2 and two bytes are read, the low one first. -/
theorem State.pop16_state (s : State) :
    s.pop16.2 =
      { s with
        cpu := { s.cpu with sp := s.cpu.sp + 2 }
        bus := (s.bus.afterRead s.cpu.sp).afterRead (s.cpu.sp + 1) } := by
  simp [State.pop16, State.setR16, State.r16, State.memRead, add_one_add_one]

/-! ### Fetch -/

/-- R140. -/
theorem State.fetch8_eq (s : State) :
    s.fetch8 = (s.bus.answer s.cpu.pc,
      { s with cpu := { s.cpu with pc := s.cpu.pc + 1 }, bus := s.bus.afterRead s.cpu.pc }) := rfl

/-- R151: the opcode fetch with no HALT bug pending is a `fetch8`. -/
theorem State.fetchOpcode_eq_fetch8 {s : State} (h : s.cpu.haltBug = false) :
    s.fetchOpcode = s.fetch8 := by
  simp [State.fetchOpcode, State.fetch8, h]

/-- R621: the opcode fetch with the HALT bug pending leaves pc. -/
theorem State.fetchOpcode_of_haltBug {s : State} (h : s.cpu.haltBug = true) :
    s.fetchOpcode = (s.bus.answer s.cpu.pc,
      { s with cpu := { s.cpu with haltBug := false }, bus := s.bus.afterRead s.cpu.pc }) := by
  simp [State.fetchOpcode, h, State.pc, State.memRead, State.setHaltBug]

/-! ### Flags -/

/-- R32: four flags over a low nibble, read back bit by bit. -/
theorem flag_bits (f : Flags) (x : BitVec 4) :
    let r := BitVec.ofBool f.z ++ BitVec.ofBool f.n ++ BitVec.ofBool f.h ++ BitVec.ofBool f.c ++ x
    r.getLsbD 7 = f.z ∧ r.getLsbD 6 = f.n ∧ r.getLsbD 5 = f.h ∧ r.getLsbD 4 = f.c := by
  obtain ⟨z, n, h, c⟩ := f
  revert z n h c x
  decide

/-- R205: the flags read back after a write. -/
@[simp] theorem State.flags_setFlags (s : State) (f : Flags) : (s.setFlags f).flags = f := by
  obtain ⟨hz, hn, hh, hc⟩ := flag_bits f (s.cpu.f.extractLsb' 0 4)
  simp only [State.flags, State.fZ, State.fN, State.fH, State.fC, State.setFlags, hz, hn, hh, hc]

/-- R205, R32: a flag write keeps the low nibble of F. -/
@[simp] theorem State.setFlags_low (s : State) (f : Flags) :
    (s.setFlags f).cpu.f.extractLsb' 0 4 = s.cpu.f.extractLsb' 0 4 := by
  ext i hi
  simp only [State.setFlags, BitVec.getElem_extractLsb', BitVec.getLsbD_append]
  rw [if_pos (by omega)]
  simp [hi]

/-! ### Ending an instruction -/

/-- R157, R602: a completed instruction adds its cost and reports it. -/
theorem done_eq (n : Nat) (s : State) : done n s = .next (s.charge n) := rfl

/-- A completed instruction has a next state. -/
theorem done_next {n : Nat} {s t : State} (h : done n s = .next t) : t = s.charge n := by
  cases h; rfl

/-! ### Interrupt entry and faults -/

/-- R613: everything interrupt entry changes. -/
theorem State.interruptEntry_eq (s : State) :
    s.interruptEntry =
      { s with
        cpu := { s.cpu with
          ime := false, imePending := false, sp := s.cpu.sp - 2
          pc := 0x0040 + (BitVec.ofNat 16 (lowestRequest s.irq) <<< 3)
          cycles := s.cpu.cycles + inUnit s.params.cycleUnit 20 }
        bus := (s.bus.afterWrite (s.cpu.sp - 1) (hiByte s.cpu.pc)).afterWrite (s.cpu.sp - 2)
          (loByte s.cpu.pc)
        out := .interrupt (inUnit s.params.cycleUnit 20) (lowestRequest s.irq) } := by
  simp [State.interruptEntry, State.push16_eq, State.setIme, State.setPc, State.addCycles,
    State.report, State.pc]

/-- R510: everything RETI changes but its cost. -/
theorem returnFromInterrupt_eq (s : State) :
    returnFromInterrupt s =
      { s with
        cpu := { s.cpu with
          sp := s.cpu.sp + 2, pc := s.pop16.1, ime := true, imePending := false }
        bus := (s.bus.afterRead s.cpu.sp).afterRead (s.cpu.sp + 1) } := by
  simp [returnFromInterrupt, State.pop16_state, State.setPc, State.setIme]

end Sys2Proof.Machine
end

