-- ==== Sys2Proof/Laws/Exec.lean ====
section
/-! SUPPORT. What `exec` does with the rows of each family: one lemma per family, stated with the shared
operation the rows' meanings call. A proof about instructions cites these and never unfolds `exec`. -/

namespace Sys2Proof.Machine

/-- The cost of a row on an r8 operand: one figure on a register, one on (HL). -/
def opndCost (o : Opnd8) (onReg onMem : Nat) : Nat :=
  match o with
  | .reg _ => onReg
  | .hl => onMem

theorem exec_ldReg (dst r : Reg8) (s : State) :
    exec (ldRow (.reg dst) (.reg r)) s = done 4 (ldRegReg dst r s) := by
  cases dst <;> cases r <;> rfl

theorem exec_ldRegHL (dst : Reg8) (s : State) :
    exec (ldRow (.reg dst) .hl) s = done 8 (ldRegMem dst s.hl s) := by
  cases dst <;> rfl

theorem exec_ldHLReg (r : Reg8) (s : State) :
    exec (ldRow .hl (.reg r)) s = done 8 (s.memWrite s.hl (s.reg r)) := by
  cases r <;> rfl

theorem exec_halt (s : State) :
    exec (ldRow .hl .hl) s = done 4 (halt s) := by
  rfl

theorem exec_ldImmReg (dst : Reg8) (n : Byte) (s : State) :
    exec (ldImmRow (.reg dst) n) s = done 8 (s.setReg dst n) := by
  cases dst <;> rfl

theorem exec_ldImmHL (n : Byte) (s : State) :
    exec (ldImmRow .hl n) s = done 12 (s.memWrite s.hl n) := by
  rfl

theorem exec_alu (op : Alu8) (o : Opnd8) (s : State) :
    exec (aluRow op o) s = done (opndCost o 4 8) (aluOpnd op o s) := by
  cases op <;> rcases o with r | _ <;> first | rfl | (cases r <;> rfl)

theorem exec_aluImm (op : Alu8) (n : Byte) (s : State) :
    exec (aluImmRow op n) s = done 8 (aluValue op n s) := by
  cases op <;> rfl

theorem exec_inc (o : Opnd8) (s : State) :
    exec (incRow o) s = done (opndCost o 4 12) (modifyOpnd inc8 o s) := by
  rcases o with r | _ <;> first | rfl | (cases r <;> rfl)

theorem exec_dec (o : Opnd8) (s : State) :
    exec (decRow o) s = done (opndCost o 4 12) (modifyOpnd dec8 o s) := by
  rcases o with r | _ <;> first | rfl | (cases r <;> rfl)

theorem exec_ldR16 (rr : R16) (n : Word) (s : State) :
    exec (ldR16Row rr n) s = done 12 (s.setR16 rr n) := by
  cases rr <;> rfl

theorem exec_addHL (rr : R16) (s : State) :
    exec (addHLRow rr) s = done 8 (addHL rr s) := by
  cases rr <;> rfl

theorem exec_incR16 (rr : R16) (s : State) :
    exec (incR16Row rr) s = done 8 (s.setR16 rr (s.r16 rr + 1)) := by
  cases rr <;> rfl

theorem exec_decR16 (rr : R16) (s : State) :
    exec (decR16Row rr) s = done 8 (s.setR16 rr (s.r16 rr - 1)) := by
  cases rr <;> rfl

theorem exec_storeA (m : R16Mem) (s : State) :
    exec (storeARow m) s = done 8 (storeA m s) := by
  cases m <;> rfl

theorem exec_loadA (m : R16Mem) (s : State) :
    exec (loadARow m) s = done 8 (loadA m s) := by
  cases m <;> rfl

theorem exec_push (rr : R16Stk) (s : State) :
    exec (pushRow rr) s = done 16 (s.push16 (s.r16Stk rr)) := by
  cases rr <;> rfl

theorem exec_pop (rr : R16Stk) (s : State) :
    exec (popRow rr) s = done 12 (s.popR16 rr) := by
  cases rr <;> rfl

theorem exec_jrCond (cc : Cond) (e : Byte) (s : State) :
    exec (jrCondRow cc e) s = doneIf cc 12 8 (jr e s) s := by
  cases cc <;> rfl

theorem exec_jpCond (cc : Cond) (t : Word) (s : State) :
    exec (jpCondRow cc t) s = doneIf cc 16 12 (jp t s) s := by
  cases cc <;> rfl

theorem exec_callCond (cc : Cond) (t : Word) (s : State) :
    exec (callCondRow cc t) s = doneIf cc 24 12 (call t s) s := by
  cases cc <;> rfl

theorem exec_retCond (cc : Cond) (s : State) :
    exec (retCondRow cc) s = doneIf cc 20 8 (ret s) s := by
  cases cc <;> rfl

theorem exec_rst (y : B3) (s : State) :
    exec (rstRow y) s = done 16 (rst y s) := by
  cases y <;> rfl

theorem exec_rot (op : Rot8) (o : Opnd8) (s : State) :
    exec (rotRow op o) s = done (opndCost o 8 16) (modifyOpnd (rot8 op) o s) := by
  cases op <;> rcases o with r | _ <;> first | rfl | (cases r <;> rfl)

theorem exec_bit (b : B3) (o : Opnd8) (s : State) :
    exec (bitRow b o) s = done (opndCost o 8 12) (testBit b o s) := by
  cases b <;> rcases o with r | _ <;> first | rfl | (cases r <;> rfl)

theorem exec_res (b : B3) (o : Opnd8) (s : State) :
    exec (resRow b o) s = done (opndCost o 8 16) (changeBit false b o s) := by
  cases b <;> rcases o with r | _ <;> first | rfl | (cases r <;> rfl)

theorem exec_set (b : B3) (o : Opnd8) (s : State) :
    exec (setRow b o) s = done (opndCost o 8 16) (changeBit true b o s) := by
  cases b <;> rcases o with r | _ <;> first | rfl | (cases r <;> rfl)

theorem exec_NOP (s : State) : exec (.NOP) s = done 4 s := rfl

theorem exec_RLCA (s : State) : exec (.RLCA) s = done 4 (rotateA .rlc s) := rfl

theorem exec_RRCA (s : State) : exec (.RRCA) s = done 4 (rotateA .rrc s) := rfl

theorem exec_RLA (s : State) : exec (.RLA) s = done 4 (rotateA .rl s) := rfl

theorem exec_RRA (s : State) : exec (.RRA) s = done 4 (rotateA .rr s) := rfl

theorem exec_LD_ma16_SP (a : Word) (s : State) : exec (.LD_ma16_SP a) s = done 20 (storeSp a s) := rfl

theorem exec_STOP (n : Byte) (s : State) : exec (.STOP n) s = done 4 (stop s) := rfl

theorem exec_JR_e8 (n : Byte) (s : State) : exec (.JR_e8 n) s = done 12 (jr n s) := rfl

theorem exec_DAA (s : State) : exec (.DAA) s = done 4 (decimalAdjust s) := rfl

theorem exec_CPL (s : State) : exec (.CPL) s = done 4 (complementA s) := rfl

theorem exec_SCF (s : State) : exec (.SCF) s = done 4 (setCarry s) := rfl

theorem exec_CCF (s : State) : exec (.CCF) s = done 4 (complementCarry s) := rfl

theorem exec_JP_a16 (a : Word) (s : State) : exec (.JP_a16 a) s = done 16 (jp a s) := rfl

theorem exec_RET (s : State) : exec (.RET) s = done 16 (ret s) := rfl

theorem exec_CALL_a16 (a : Word) (s : State) : exec (.CALL_a16 a) s = done 24 (call a s) := rfl

theorem exec_RETI (s : State) : exec (.RETI) s = done 16 (returnFromInterrupt s) := rfl

theorem exec_LDH_ma8_A (n : Byte) (s : State) : exec (.LDH_ma8_A n) s = done 12 (s.memWrite (highPage n) s.cpu.a) := rfl

theorem exec_LDH_mC_A (s : State) : exec (.LDH_mC_A) s = done 8 (s.memWrite (highPage s.cpu.c) s.cpu.a) := rfl

theorem exec_ADD_SP_e8 (n : Byte) (s : State) : exec (.ADD_SP_e8 n) s = done 16 (addSp n s) := rfl

theorem exec_JP_HL (s : State) : exec (.JP_HL) s = done 4 (jp s.hl s) := rfl

theorem exec_LD_ma16_A (a : Word) (s : State) : exec (.LD_ma16_A a) s = done 16 (s.memWrite a s.cpu.a) := rfl

theorem exec_LDH_A_ma8 (n : Byte) (s : State) : exec (.LDH_A_ma8 n) s = done 12 (ldRegMem .a (highPage n) s) := rfl

theorem exec_LDH_A_mC (s : State) : exec (.LDH_A_mC) s = done 8 (ldRegMem .a (highPage s.cpu.c) s) := rfl

theorem exec_DI (s : State) : exec (.DI) s = done 4 (di s) := rfl

theorem exec_EI (s : State) : exec (.EI) s = done 4 (ei s) := rfl

theorem exec_LD_HL_SP_e8 (n : Byte) (s : State) : exec (.LD_HL_SP_e8 n) s = done 12 (ldHLSpPlus n s) := rfl

theorem exec_LD_SP_HL (s : State) : exec (.LD_SP_HL) s = done 8 (s.setR16 .sp s.hl) := rfl

theorem exec_LD_A_ma16 (a : Word) (s : State) : exec (.LD_A_ma16 a) s = done 16 (ldRegMem .a a s) := rfl

theorem exec_PREFIX (n : Byte) (s : State) : exec (.PREFIX n) s = execPREFIX n s := rfl

end Sys2Proof.Machine
end

