-- ==== Sys2Proof/Laws/PerInstr.lean ====
section
/-! SUPPORT. Facts about each instruction as syntax, one lemma per constructor. -/

namespace Sys2Proof.Laws.Encoding

/-- R120, R132: an instruction is as long as its first byte says, and one to three bytes long. -/
def Statement (i : Instr) : Prop :=
  (encode i).length = opLength ((encode i).headD 0) ∧ 1 ≤ (encode i).length ∧ (encode i).length ≤ 3

/-- The opcode byte decides the length: one lemma for each length and shape, cited by the rows. -/
theorem one_byte {i : Instr} {op : Byte} (h : encode i = [op]) (hl : opLength op = 1) : Statement i := by
  simp [Statement, h, hl]

theorem two_bytes {i : Instr} {op n : Byte} (h : encode i = [op, n]) (hl : opLength op = 2) :
    Statement i := by
  simp [Statement, h, hl]

theorem three_bytes {i : Instr} {op lo hi : Byte} (h : encode i = [op, lo, hi])
    (hl : opLength op = 3) : Statement i := by
  simp [Statement, h, hl]

theorem NOP : Statement .NOP := one_byte rfl rfl
theorem LD_BC_n16 (n : Word) : Statement (.LD_BC_n16 n) := three_bytes rfl rfl
theorem LD_mBC_A : Statement .LD_mBC_A := one_byte rfl rfl
theorem INC_BC : Statement .INC_BC := one_byte rfl rfl
theorem INC_B : Statement .INC_B := one_byte rfl rfl
theorem DEC_B : Statement .DEC_B := one_byte rfl rfl
theorem LD_B_n8 (n : Byte) : Statement (.LD_B_n8 n) := two_bytes rfl rfl
theorem RLCA : Statement .RLCA := one_byte rfl rfl
theorem LD_ma16_SP (n : Word) : Statement (.LD_ma16_SP n) := three_bytes rfl rfl
theorem ADD_HL_BC : Statement .ADD_HL_BC := one_byte rfl rfl
theorem LD_A_mBC : Statement .LD_A_mBC := one_byte rfl rfl
theorem DEC_BC : Statement .DEC_BC := one_byte rfl rfl
theorem INC_C : Statement .INC_C := one_byte rfl rfl
theorem DEC_C : Statement .DEC_C := one_byte rfl rfl
theorem LD_C_n8 (n : Byte) : Statement (.LD_C_n8 n) := two_bytes rfl rfl
theorem RRCA : Statement .RRCA := one_byte rfl rfl
theorem STOP (n : Byte) : Statement (.STOP n) := two_bytes rfl rfl
theorem LD_DE_n16 (n : Word) : Statement (.LD_DE_n16 n) := three_bytes rfl rfl
theorem LD_mDE_A : Statement .LD_mDE_A := one_byte rfl rfl
theorem INC_DE : Statement .INC_DE := one_byte rfl rfl
theorem INC_D : Statement .INC_D := one_byte rfl rfl
theorem DEC_D : Statement .DEC_D := one_byte rfl rfl
theorem LD_D_n8 (n : Byte) : Statement (.LD_D_n8 n) := two_bytes rfl rfl
theorem RLA : Statement .RLA := one_byte rfl rfl
theorem JR_e8 (n : Byte) : Statement (.JR_e8 n) := two_bytes rfl rfl
theorem ADD_HL_DE : Statement .ADD_HL_DE := one_byte rfl rfl
theorem LD_A_mDE : Statement .LD_A_mDE := one_byte rfl rfl
theorem DEC_DE : Statement .DEC_DE := one_byte rfl rfl
theorem INC_E : Statement .INC_E := one_byte rfl rfl
theorem DEC_E : Statement .DEC_E := one_byte rfl rfl
theorem LD_E_n8 (n : Byte) : Statement (.LD_E_n8 n) := two_bytes rfl rfl
theorem RRA : Statement .RRA := one_byte rfl rfl
theorem JR_NZ_e8 (n : Byte) : Statement (.JR_NZ_e8 n) := two_bytes rfl rfl
theorem LD_HL_n16 (n : Word) : Statement (.LD_HL_n16 n) := three_bytes rfl rfl
theorem LD_mHLI_A : Statement .LD_mHLI_A := one_byte rfl rfl
theorem INC_HL : Statement .INC_HL := one_byte rfl rfl
theorem INC_H : Statement .INC_H := one_byte rfl rfl
theorem DEC_H : Statement .DEC_H := one_byte rfl rfl
theorem LD_H_n8 (n : Byte) : Statement (.LD_H_n8 n) := two_bytes rfl rfl
theorem DAA : Statement .DAA := one_byte rfl rfl
theorem JR_Z_e8 (n : Byte) : Statement (.JR_Z_e8 n) := two_bytes rfl rfl
theorem ADD_HL_HL : Statement .ADD_HL_HL := one_byte rfl rfl
theorem LD_A_mHLI : Statement .LD_A_mHLI := one_byte rfl rfl
theorem DEC_HL : Statement .DEC_HL := one_byte rfl rfl
theorem INC_L : Statement .INC_L := one_byte rfl rfl
theorem DEC_L : Statement .DEC_L := one_byte rfl rfl
theorem LD_L_n8 (n : Byte) : Statement (.LD_L_n8 n) := two_bytes rfl rfl
theorem CPL : Statement .CPL := one_byte rfl rfl
theorem JR_NC_e8 (n : Byte) : Statement (.JR_NC_e8 n) := two_bytes rfl rfl
theorem LD_SP_n16 (n : Word) : Statement (.LD_SP_n16 n) := three_bytes rfl rfl
theorem LD_mHLD_A : Statement .LD_mHLD_A := one_byte rfl rfl
theorem INC_SP : Statement .INC_SP := one_byte rfl rfl
theorem INC_mHL : Statement .INC_mHL := one_byte rfl rfl
theorem DEC_mHL : Statement .DEC_mHL := one_byte rfl rfl
theorem LD_mHL_n8 (n : Byte) : Statement (.LD_mHL_n8 n) := two_bytes rfl rfl
theorem SCF : Statement .SCF := one_byte rfl rfl
theorem JR_C_e8 (n : Byte) : Statement (.JR_C_e8 n) := two_bytes rfl rfl
theorem ADD_HL_SP : Statement .ADD_HL_SP := one_byte rfl rfl
theorem LD_A_mHLD : Statement .LD_A_mHLD := one_byte rfl rfl
theorem DEC_SP : Statement .DEC_SP := one_byte rfl rfl
theorem INC_A : Statement .INC_A := one_byte rfl rfl
theorem DEC_A : Statement .DEC_A := one_byte rfl rfl
theorem LD_A_n8 (n : Byte) : Statement (.LD_A_n8 n) := two_bytes rfl rfl
theorem CCF : Statement .CCF := one_byte rfl rfl
theorem LD_B_B : Statement .LD_B_B := one_byte rfl rfl
theorem LD_B_C : Statement .LD_B_C := one_byte rfl rfl
theorem LD_B_D : Statement .LD_B_D := one_byte rfl rfl
theorem LD_B_E : Statement .LD_B_E := one_byte rfl rfl
theorem LD_B_H : Statement .LD_B_H := one_byte rfl rfl
theorem LD_B_L : Statement .LD_B_L := one_byte rfl rfl
theorem LD_B_mHL : Statement .LD_B_mHL := one_byte rfl rfl
theorem LD_B_A : Statement .LD_B_A := one_byte rfl rfl
theorem LD_C_B : Statement .LD_C_B := one_byte rfl rfl
theorem LD_C_C : Statement .LD_C_C := one_byte rfl rfl
theorem LD_C_D : Statement .LD_C_D := one_byte rfl rfl
theorem LD_C_E : Statement .LD_C_E := one_byte rfl rfl
theorem LD_C_H : Statement .LD_C_H := one_byte rfl rfl
theorem LD_C_L : Statement .LD_C_L := one_byte rfl rfl
theorem LD_C_mHL : Statement .LD_C_mHL := one_byte rfl rfl
theorem LD_C_A : Statement .LD_C_A := one_byte rfl rfl
theorem LD_D_B : Statement .LD_D_B := one_byte rfl rfl
theorem LD_D_C : Statement .LD_D_C := one_byte rfl rfl
theorem LD_D_D : Statement .LD_D_D := one_byte rfl rfl
theorem LD_D_E : Statement .LD_D_E := one_byte rfl rfl
theorem LD_D_H : Statement .LD_D_H := one_byte rfl rfl
theorem LD_D_L : Statement .LD_D_L := one_byte rfl rfl
theorem LD_D_mHL : Statement .LD_D_mHL := one_byte rfl rfl
theorem LD_D_A : Statement .LD_D_A := one_byte rfl rfl
theorem LD_E_B : Statement .LD_E_B := one_byte rfl rfl
theorem LD_E_C : Statement .LD_E_C := one_byte rfl rfl
theorem LD_E_D : Statement .LD_E_D := one_byte rfl rfl
theorem LD_E_E : Statement .LD_E_E := one_byte rfl rfl
theorem LD_E_H : Statement .LD_E_H := one_byte rfl rfl
theorem LD_E_L : Statement .LD_E_L := one_byte rfl rfl
theorem LD_E_mHL : Statement .LD_E_mHL := one_byte rfl rfl
theorem LD_E_A : Statement .LD_E_A := one_byte rfl rfl
theorem LD_H_B : Statement .LD_H_B := one_byte rfl rfl
theorem LD_H_C : Statement .LD_H_C := one_byte rfl rfl
theorem LD_H_D : Statement .LD_H_D := one_byte rfl rfl
theorem LD_H_E : Statement .LD_H_E := one_byte rfl rfl
theorem LD_H_H : Statement .LD_H_H := one_byte rfl rfl
theorem LD_H_L : Statement .LD_H_L := one_byte rfl rfl
theorem LD_H_mHL : Statement .LD_H_mHL := one_byte rfl rfl
theorem LD_H_A : Statement .LD_H_A := one_byte rfl rfl
theorem LD_L_B : Statement .LD_L_B := one_byte rfl rfl
theorem LD_L_C : Statement .LD_L_C := one_byte rfl rfl
theorem LD_L_D : Statement .LD_L_D := one_byte rfl rfl
theorem LD_L_E : Statement .LD_L_E := one_byte rfl rfl
theorem LD_L_H : Statement .LD_L_H := one_byte rfl rfl
theorem LD_L_L : Statement .LD_L_L := one_byte rfl rfl
theorem LD_L_mHL : Statement .LD_L_mHL := one_byte rfl rfl
theorem LD_L_A : Statement .LD_L_A := one_byte rfl rfl
theorem LD_mHL_B : Statement .LD_mHL_B := one_byte rfl rfl
theorem LD_mHL_C : Statement .LD_mHL_C := one_byte rfl rfl
theorem LD_mHL_D : Statement .LD_mHL_D := one_byte rfl rfl
theorem LD_mHL_E : Statement .LD_mHL_E := one_byte rfl rfl
theorem LD_mHL_H : Statement .LD_mHL_H := one_byte rfl rfl
theorem LD_mHL_L : Statement .LD_mHL_L := one_byte rfl rfl
theorem HALT : Statement .HALT := one_byte rfl rfl
theorem LD_mHL_A : Statement .LD_mHL_A := one_byte rfl rfl
theorem LD_A_B : Statement .LD_A_B := one_byte rfl rfl
theorem LD_A_C : Statement .LD_A_C := one_byte rfl rfl
theorem LD_A_D : Statement .LD_A_D := one_byte rfl rfl
theorem LD_A_E : Statement .LD_A_E := one_byte rfl rfl
theorem LD_A_H : Statement .LD_A_H := one_byte rfl rfl
theorem LD_A_L : Statement .LD_A_L := one_byte rfl rfl
theorem LD_A_mHL : Statement .LD_A_mHL := one_byte rfl rfl
theorem LD_A_A : Statement .LD_A_A := one_byte rfl rfl
theorem ADD_A_B : Statement .ADD_A_B := one_byte rfl rfl
theorem ADD_A_C : Statement .ADD_A_C := one_byte rfl rfl
theorem ADD_A_D : Statement .ADD_A_D := one_byte rfl rfl
theorem ADD_A_E : Statement .ADD_A_E := one_byte rfl rfl
theorem ADD_A_H : Statement .ADD_A_H := one_byte rfl rfl
theorem ADD_A_L : Statement .ADD_A_L := one_byte rfl rfl
theorem ADD_A_mHL : Statement .ADD_A_mHL := one_byte rfl rfl
theorem ADD_A_A : Statement .ADD_A_A := one_byte rfl rfl
theorem ADC_A_B : Statement .ADC_A_B := one_byte rfl rfl
theorem ADC_A_C : Statement .ADC_A_C := one_byte rfl rfl
theorem ADC_A_D : Statement .ADC_A_D := one_byte rfl rfl
theorem ADC_A_E : Statement .ADC_A_E := one_byte rfl rfl
theorem ADC_A_H : Statement .ADC_A_H := one_byte rfl rfl
theorem ADC_A_L : Statement .ADC_A_L := one_byte rfl rfl
theorem ADC_A_mHL : Statement .ADC_A_mHL := one_byte rfl rfl
theorem ADC_A_A : Statement .ADC_A_A := one_byte rfl rfl
theorem SUB_A_B : Statement .SUB_A_B := one_byte rfl rfl
theorem SUB_A_C : Statement .SUB_A_C := one_byte rfl rfl
theorem SUB_A_D : Statement .SUB_A_D := one_byte rfl rfl
theorem SUB_A_E : Statement .SUB_A_E := one_byte rfl rfl
theorem SUB_A_H : Statement .SUB_A_H := one_byte rfl rfl
theorem SUB_A_L : Statement .SUB_A_L := one_byte rfl rfl
theorem SUB_A_mHL : Statement .SUB_A_mHL := one_byte rfl rfl
theorem SUB_A_A : Statement .SUB_A_A := one_byte rfl rfl
theorem SBC_A_B : Statement .SBC_A_B := one_byte rfl rfl
theorem SBC_A_C : Statement .SBC_A_C := one_byte rfl rfl
theorem SBC_A_D : Statement .SBC_A_D := one_byte rfl rfl
theorem SBC_A_E : Statement .SBC_A_E := one_byte rfl rfl
theorem SBC_A_H : Statement .SBC_A_H := one_byte rfl rfl
theorem SBC_A_L : Statement .SBC_A_L := one_byte rfl rfl
theorem SBC_A_mHL : Statement .SBC_A_mHL := one_byte rfl rfl
theorem SBC_A_A : Statement .SBC_A_A := one_byte rfl rfl
theorem AND_A_B : Statement .AND_A_B := one_byte rfl rfl
theorem AND_A_C : Statement .AND_A_C := one_byte rfl rfl
theorem AND_A_D : Statement .AND_A_D := one_byte rfl rfl
theorem AND_A_E : Statement .AND_A_E := one_byte rfl rfl
theorem AND_A_H : Statement .AND_A_H := one_byte rfl rfl
theorem AND_A_L : Statement .AND_A_L := one_byte rfl rfl
theorem AND_A_mHL : Statement .AND_A_mHL := one_byte rfl rfl
theorem AND_A_A : Statement .AND_A_A := one_byte rfl rfl
theorem XOR_A_B : Statement .XOR_A_B := one_byte rfl rfl
theorem XOR_A_C : Statement .XOR_A_C := one_byte rfl rfl
theorem XOR_A_D : Statement .XOR_A_D := one_byte rfl rfl
theorem XOR_A_E : Statement .XOR_A_E := one_byte rfl rfl
theorem XOR_A_H : Statement .XOR_A_H := one_byte rfl rfl
theorem XOR_A_L : Statement .XOR_A_L := one_byte rfl rfl
theorem XOR_A_mHL : Statement .XOR_A_mHL := one_byte rfl rfl
theorem XOR_A_A : Statement .XOR_A_A := one_byte rfl rfl
theorem OR_A_B : Statement .OR_A_B := one_byte rfl rfl
theorem OR_A_C : Statement .OR_A_C := one_byte rfl rfl
theorem OR_A_D : Statement .OR_A_D := one_byte rfl rfl
theorem OR_A_E : Statement .OR_A_E := one_byte rfl rfl
theorem OR_A_H : Statement .OR_A_H := one_byte rfl rfl
theorem OR_A_L : Statement .OR_A_L := one_byte rfl rfl
theorem OR_A_mHL : Statement .OR_A_mHL := one_byte rfl rfl
theorem OR_A_A : Statement .OR_A_A := one_byte rfl rfl
theorem CP_A_B : Statement .CP_A_B := one_byte rfl rfl
theorem CP_A_C : Statement .CP_A_C := one_byte rfl rfl
theorem CP_A_D : Statement .CP_A_D := one_byte rfl rfl
theorem CP_A_E : Statement .CP_A_E := one_byte rfl rfl
theorem CP_A_H : Statement .CP_A_H := one_byte rfl rfl
theorem CP_A_L : Statement .CP_A_L := one_byte rfl rfl
theorem CP_A_mHL : Statement .CP_A_mHL := one_byte rfl rfl
theorem CP_A_A : Statement .CP_A_A := one_byte rfl rfl
theorem RET_NZ : Statement .RET_NZ := one_byte rfl rfl
theorem POP_BC : Statement .POP_BC := one_byte rfl rfl
theorem JP_NZ_a16 (n : Word) : Statement (.JP_NZ_a16 n) := three_bytes rfl rfl
theorem JP_a16 (n : Word) : Statement (.JP_a16 n) := three_bytes rfl rfl
theorem CALL_NZ_a16 (n : Word) : Statement (.CALL_NZ_a16 n) := three_bytes rfl rfl
theorem PUSH_BC : Statement .PUSH_BC := one_byte rfl rfl
theorem ADD_A_n8 (n : Byte) : Statement (.ADD_A_n8 n) := two_bytes rfl rfl
theorem RST_0x00 : Statement .RST_0x00 := one_byte rfl rfl
theorem RET_Z : Statement .RET_Z := one_byte rfl rfl
theorem RET : Statement .RET := one_byte rfl rfl
theorem JP_Z_a16 (n : Word) : Statement (.JP_Z_a16 n) := three_bytes rfl rfl
theorem PREFIX (n : Byte) : Statement (.PREFIX n) := two_bytes rfl rfl
theorem CALL_Z_a16 (n : Word) : Statement (.CALL_Z_a16 n) := three_bytes rfl rfl
theorem CALL_a16 (n : Word) : Statement (.CALL_a16 n) := three_bytes rfl rfl
theorem ADC_A_n8 (n : Byte) : Statement (.ADC_A_n8 n) := two_bytes rfl rfl
theorem RST_0x08 : Statement .RST_0x08 := one_byte rfl rfl
theorem RET_NC : Statement .RET_NC := one_byte rfl rfl
theorem POP_DE : Statement .POP_DE := one_byte rfl rfl
theorem JP_NC_a16 (n : Word) : Statement (.JP_NC_a16 n) := three_bytes rfl rfl
theorem CALL_NC_a16 (n : Word) : Statement (.CALL_NC_a16 n) := three_bytes rfl rfl
theorem PUSH_DE : Statement .PUSH_DE := one_byte rfl rfl
theorem SUB_A_n8 (n : Byte) : Statement (.SUB_A_n8 n) := two_bytes rfl rfl
theorem RST_0x10 : Statement .RST_0x10 := one_byte rfl rfl
theorem RET_C : Statement .RET_C := one_byte rfl rfl
theorem RETI : Statement .RETI := one_byte rfl rfl
theorem JP_C_a16 (n : Word) : Statement (.JP_C_a16 n) := three_bytes rfl rfl
theorem CALL_C_a16 (n : Word) : Statement (.CALL_C_a16 n) := three_bytes rfl rfl
theorem SBC_A_n8 (n : Byte) : Statement (.SBC_A_n8 n) := two_bytes rfl rfl
theorem RST_0x18 : Statement .RST_0x18 := one_byte rfl rfl
theorem LDH_ma8_A (n : Byte) : Statement (.LDH_ma8_A n) := two_bytes rfl rfl
theorem POP_HL : Statement .POP_HL := one_byte rfl rfl
theorem LDH_mC_A : Statement .LDH_mC_A := one_byte rfl rfl
theorem PUSH_HL : Statement .PUSH_HL := one_byte rfl rfl
theorem AND_A_n8 (n : Byte) : Statement (.AND_A_n8 n) := two_bytes rfl rfl
theorem RST_0x20 : Statement .RST_0x20 := one_byte rfl rfl
theorem ADD_SP_e8 (n : Byte) : Statement (.ADD_SP_e8 n) := two_bytes rfl rfl
theorem JP_HL : Statement .JP_HL := one_byte rfl rfl
theorem LD_ma16_A (n : Word) : Statement (.LD_ma16_A n) := three_bytes rfl rfl
theorem XOR_A_n8 (n : Byte) : Statement (.XOR_A_n8 n) := two_bytes rfl rfl
theorem RST_0x28 : Statement .RST_0x28 := one_byte rfl rfl
theorem LDH_A_ma8 (n : Byte) : Statement (.LDH_A_ma8 n) := two_bytes rfl rfl
theorem POP_AF : Statement .POP_AF := one_byte rfl rfl
theorem LDH_A_mC : Statement .LDH_A_mC := one_byte rfl rfl
theorem DI : Statement .DI := one_byte rfl rfl
theorem PUSH_AF : Statement .PUSH_AF := one_byte rfl rfl
theorem OR_A_n8 (n : Byte) : Statement (.OR_A_n8 n) := two_bytes rfl rfl
theorem RST_0x30 : Statement .RST_0x30 := one_byte rfl rfl
theorem LD_HL_SP_e8 (n : Byte) : Statement (.LD_HL_SP_e8 n) := two_bytes rfl rfl
theorem LD_SP_HL : Statement .LD_SP_HL := one_byte rfl rfl
theorem LD_A_ma16 (n : Word) : Statement (.LD_A_ma16 n) := three_bytes rfl rfl
theorem EI : Statement .EI := one_byte rfl rfl
theorem CP_A_n8 (n : Byte) : Statement (.CP_A_n8 n) := two_bytes rfl rfl
theorem RST_0x38 : Statement .RST_0x38 := one_byte rfl rfl
theorem RLC_B : Statement .RLC_B := two_bytes rfl rfl
theorem RLC_C : Statement .RLC_C := two_bytes rfl rfl
theorem RLC_D : Statement .RLC_D := two_bytes rfl rfl
theorem RLC_E : Statement .RLC_E := two_bytes rfl rfl
theorem RLC_H : Statement .RLC_H := two_bytes rfl rfl
theorem RLC_L : Statement .RLC_L := two_bytes rfl rfl
theorem RLC_mHL : Statement .RLC_mHL := two_bytes rfl rfl
theorem RLC_A : Statement .RLC_A := two_bytes rfl rfl
theorem RRC_B : Statement .RRC_B := two_bytes rfl rfl
theorem RRC_C : Statement .RRC_C := two_bytes rfl rfl
theorem RRC_D : Statement .RRC_D := two_bytes rfl rfl
theorem RRC_E : Statement .RRC_E := two_bytes rfl rfl
theorem RRC_H : Statement .RRC_H := two_bytes rfl rfl
theorem RRC_L : Statement .RRC_L := two_bytes rfl rfl
theorem RRC_mHL : Statement .RRC_mHL := two_bytes rfl rfl
theorem RRC_A : Statement .RRC_A := two_bytes rfl rfl
theorem RL_B : Statement .RL_B := two_bytes rfl rfl
theorem RL_C : Statement .RL_C := two_bytes rfl rfl
theorem RL_D : Statement .RL_D := two_bytes rfl rfl
theorem RL_E : Statement .RL_E := two_bytes rfl rfl
theorem RL_H : Statement .RL_H := two_bytes rfl rfl
theorem RL_L : Statement .RL_L := two_bytes rfl rfl
theorem RL_mHL : Statement .RL_mHL := two_bytes rfl rfl
theorem RL_A : Statement .RL_A := two_bytes rfl rfl
theorem RR_B : Statement .RR_B := two_bytes rfl rfl
theorem RR_C : Statement .RR_C := two_bytes rfl rfl
theorem RR_D : Statement .RR_D := two_bytes rfl rfl
theorem RR_E : Statement .RR_E := two_bytes rfl rfl
theorem RR_H : Statement .RR_H := two_bytes rfl rfl
theorem RR_L : Statement .RR_L := two_bytes rfl rfl
theorem RR_mHL : Statement .RR_mHL := two_bytes rfl rfl
theorem RR_A : Statement .RR_A := two_bytes rfl rfl
theorem SLA_B : Statement .SLA_B := two_bytes rfl rfl
theorem SLA_C : Statement .SLA_C := two_bytes rfl rfl
theorem SLA_D : Statement .SLA_D := two_bytes rfl rfl
theorem SLA_E : Statement .SLA_E := two_bytes rfl rfl
theorem SLA_H : Statement .SLA_H := two_bytes rfl rfl
theorem SLA_L : Statement .SLA_L := two_bytes rfl rfl
theorem SLA_mHL : Statement .SLA_mHL := two_bytes rfl rfl
theorem SLA_A : Statement .SLA_A := two_bytes rfl rfl
theorem SRA_B : Statement .SRA_B := two_bytes rfl rfl
theorem SRA_C : Statement .SRA_C := two_bytes rfl rfl
theorem SRA_D : Statement .SRA_D := two_bytes rfl rfl
theorem SRA_E : Statement .SRA_E := two_bytes rfl rfl
theorem SRA_H : Statement .SRA_H := two_bytes rfl rfl
theorem SRA_L : Statement .SRA_L := two_bytes rfl rfl
theorem SRA_mHL : Statement .SRA_mHL := two_bytes rfl rfl
theorem SRA_A : Statement .SRA_A := two_bytes rfl rfl
theorem SWAP_B : Statement .SWAP_B := two_bytes rfl rfl
theorem SWAP_C : Statement .SWAP_C := two_bytes rfl rfl
theorem SWAP_D : Statement .SWAP_D := two_bytes rfl rfl
theorem SWAP_E : Statement .SWAP_E := two_bytes rfl rfl
theorem SWAP_H : Statement .SWAP_H := two_bytes rfl rfl
theorem SWAP_L : Statement .SWAP_L := two_bytes rfl rfl
theorem SWAP_mHL : Statement .SWAP_mHL := two_bytes rfl rfl
theorem SWAP_A : Statement .SWAP_A := two_bytes rfl rfl
theorem SRL_B : Statement .SRL_B := two_bytes rfl rfl
theorem SRL_C : Statement .SRL_C := two_bytes rfl rfl
theorem SRL_D : Statement .SRL_D := two_bytes rfl rfl
theorem SRL_E : Statement .SRL_E := two_bytes rfl rfl
theorem SRL_H : Statement .SRL_H := two_bytes rfl rfl
theorem SRL_L : Statement .SRL_L := two_bytes rfl rfl
theorem SRL_mHL : Statement .SRL_mHL := two_bytes rfl rfl
theorem SRL_A : Statement .SRL_A := two_bytes rfl rfl
theorem BIT_0_B : Statement .BIT_0_B := two_bytes rfl rfl
theorem BIT_0_C : Statement .BIT_0_C := two_bytes rfl rfl
theorem BIT_0_D : Statement .BIT_0_D := two_bytes rfl rfl
theorem BIT_0_E : Statement .BIT_0_E := two_bytes rfl rfl
theorem BIT_0_H : Statement .BIT_0_H := two_bytes rfl rfl
theorem BIT_0_L : Statement .BIT_0_L := two_bytes rfl rfl
theorem BIT_0_mHL : Statement .BIT_0_mHL := two_bytes rfl rfl
theorem BIT_0_A : Statement .BIT_0_A := two_bytes rfl rfl
theorem BIT_1_B : Statement .BIT_1_B := two_bytes rfl rfl
theorem BIT_1_C : Statement .BIT_1_C := two_bytes rfl rfl
theorem BIT_1_D : Statement .BIT_1_D := two_bytes rfl rfl
theorem BIT_1_E : Statement .BIT_1_E := two_bytes rfl rfl
theorem BIT_1_H : Statement .BIT_1_H := two_bytes rfl rfl
theorem BIT_1_L : Statement .BIT_1_L := two_bytes rfl rfl
theorem BIT_1_mHL : Statement .BIT_1_mHL := two_bytes rfl rfl
theorem BIT_1_A : Statement .BIT_1_A := two_bytes rfl rfl
theorem BIT_2_B : Statement .BIT_2_B := two_bytes rfl rfl
theorem BIT_2_C : Statement .BIT_2_C := two_bytes rfl rfl
theorem BIT_2_D : Statement .BIT_2_D := two_bytes rfl rfl
theorem BIT_2_E : Statement .BIT_2_E := two_bytes rfl rfl
theorem BIT_2_H : Statement .BIT_2_H := two_bytes rfl rfl
theorem BIT_2_L : Statement .BIT_2_L := two_bytes rfl rfl
theorem BIT_2_mHL : Statement .BIT_2_mHL := two_bytes rfl rfl
theorem BIT_2_A : Statement .BIT_2_A := two_bytes rfl rfl
theorem BIT_3_B : Statement .BIT_3_B := two_bytes rfl rfl
theorem BIT_3_C : Statement .BIT_3_C := two_bytes rfl rfl
theorem BIT_3_D : Statement .BIT_3_D := two_bytes rfl rfl
theorem BIT_3_E : Statement .BIT_3_E := two_bytes rfl rfl
theorem BIT_3_H : Statement .BIT_3_H := two_bytes rfl rfl
theorem BIT_3_L : Statement .BIT_3_L := two_bytes rfl rfl
theorem BIT_3_mHL : Statement .BIT_3_mHL := two_bytes rfl rfl
theorem BIT_3_A : Statement .BIT_3_A := two_bytes rfl rfl
theorem BIT_4_B : Statement .BIT_4_B := two_bytes rfl rfl
theorem BIT_4_C : Statement .BIT_4_C := two_bytes rfl rfl
theorem BIT_4_D : Statement .BIT_4_D := two_bytes rfl rfl
theorem BIT_4_E : Statement .BIT_4_E := two_bytes rfl rfl
theorem BIT_4_H : Statement .BIT_4_H := two_bytes rfl rfl
theorem BIT_4_L : Statement .BIT_4_L := two_bytes rfl rfl
theorem BIT_4_mHL : Statement .BIT_4_mHL := two_bytes rfl rfl
theorem BIT_4_A : Statement .BIT_4_A := two_bytes rfl rfl
theorem BIT_5_B : Statement .BIT_5_B := two_bytes rfl rfl
theorem BIT_5_C : Statement .BIT_5_C := two_bytes rfl rfl
theorem BIT_5_D : Statement .BIT_5_D := two_bytes rfl rfl
theorem BIT_5_E : Statement .BIT_5_E := two_bytes rfl rfl
theorem BIT_5_H : Statement .BIT_5_H := two_bytes rfl rfl
theorem BIT_5_L : Statement .BIT_5_L := two_bytes rfl rfl
theorem BIT_5_mHL : Statement .BIT_5_mHL := two_bytes rfl rfl
theorem BIT_5_A : Statement .BIT_5_A := two_bytes rfl rfl
theorem BIT_6_B : Statement .BIT_6_B := two_bytes rfl rfl
theorem BIT_6_C : Statement .BIT_6_C := two_bytes rfl rfl
theorem BIT_6_D : Statement .BIT_6_D := two_bytes rfl rfl
theorem BIT_6_E : Statement .BIT_6_E := two_bytes rfl rfl
theorem BIT_6_H : Statement .BIT_6_H := two_bytes rfl rfl
theorem BIT_6_L : Statement .BIT_6_L := two_bytes rfl rfl
theorem BIT_6_mHL : Statement .BIT_6_mHL := two_bytes rfl rfl
theorem BIT_6_A : Statement .BIT_6_A := two_bytes rfl rfl
theorem BIT_7_B : Statement .BIT_7_B := two_bytes rfl rfl
theorem BIT_7_C : Statement .BIT_7_C := two_bytes rfl rfl
theorem BIT_7_D : Statement .BIT_7_D := two_bytes rfl rfl
theorem BIT_7_E : Statement .BIT_7_E := two_bytes rfl rfl
theorem BIT_7_H : Statement .BIT_7_H := two_bytes rfl rfl
theorem BIT_7_L : Statement .BIT_7_L := two_bytes rfl rfl
theorem BIT_7_mHL : Statement .BIT_7_mHL := two_bytes rfl rfl
theorem BIT_7_A : Statement .BIT_7_A := two_bytes rfl rfl
theorem RES_0_B : Statement .RES_0_B := two_bytes rfl rfl
theorem RES_0_C : Statement .RES_0_C := two_bytes rfl rfl
theorem RES_0_D : Statement .RES_0_D := two_bytes rfl rfl
theorem RES_0_E : Statement .RES_0_E := two_bytes rfl rfl
theorem RES_0_H : Statement .RES_0_H := two_bytes rfl rfl
theorem RES_0_L : Statement .RES_0_L := two_bytes rfl rfl
theorem RES_0_mHL : Statement .RES_0_mHL := two_bytes rfl rfl
theorem RES_0_A : Statement .RES_0_A := two_bytes rfl rfl
theorem RES_1_B : Statement .RES_1_B := two_bytes rfl rfl
theorem RES_1_C : Statement .RES_1_C := two_bytes rfl rfl
theorem RES_1_D : Statement .RES_1_D := two_bytes rfl rfl
theorem RES_1_E : Statement .RES_1_E := two_bytes rfl rfl
theorem RES_1_H : Statement .RES_1_H := two_bytes rfl rfl
theorem RES_1_L : Statement .RES_1_L := two_bytes rfl rfl
theorem RES_1_mHL : Statement .RES_1_mHL := two_bytes rfl rfl
theorem RES_1_A : Statement .RES_1_A := two_bytes rfl rfl
theorem RES_2_B : Statement .RES_2_B := two_bytes rfl rfl
theorem RES_2_C : Statement .RES_2_C := two_bytes rfl rfl
theorem RES_2_D : Statement .RES_2_D := two_bytes rfl rfl
theorem RES_2_E : Statement .RES_2_E := two_bytes rfl rfl
theorem RES_2_H : Statement .RES_2_H := two_bytes rfl rfl
theorem RES_2_L : Statement .RES_2_L := two_bytes rfl rfl
theorem RES_2_mHL : Statement .RES_2_mHL := two_bytes rfl rfl
theorem RES_2_A : Statement .RES_2_A := two_bytes rfl rfl
theorem RES_3_B : Statement .RES_3_B := two_bytes rfl rfl
theorem RES_3_C : Statement .RES_3_C := two_bytes rfl rfl
theorem RES_3_D : Statement .RES_3_D := two_bytes rfl rfl
theorem RES_3_E : Statement .RES_3_E := two_bytes rfl rfl
theorem RES_3_H : Statement .RES_3_H := two_bytes rfl rfl
theorem RES_3_L : Statement .RES_3_L := two_bytes rfl rfl
theorem RES_3_mHL : Statement .RES_3_mHL := two_bytes rfl rfl
theorem RES_3_A : Statement .RES_3_A := two_bytes rfl rfl
theorem RES_4_B : Statement .RES_4_B := two_bytes rfl rfl
theorem RES_4_C : Statement .RES_4_C := two_bytes rfl rfl
theorem RES_4_D : Statement .RES_4_D := two_bytes rfl rfl
theorem RES_4_E : Statement .RES_4_E := two_bytes rfl rfl
theorem RES_4_H : Statement .RES_4_H := two_bytes rfl rfl
theorem RES_4_L : Statement .RES_4_L := two_bytes rfl rfl
theorem RES_4_mHL : Statement .RES_4_mHL := two_bytes rfl rfl
theorem RES_4_A : Statement .RES_4_A := two_bytes rfl rfl
theorem RES_5_B : Statement .RES_5_B := two_bytes rfl rfl
theorem RES_5_C : Statement .RES_5_C := two_bytes rfl rfl
theorem RES_5_D : Statement .RES_5_D := two_bytes rfl rfl
theorem RES_5_E : Statement .RES_5_E := two_bytes rfl rfl
theorem RES_5_H : Statement .RES_5_H := two_bytes rfl rfl
theorem RES_5_L : Statement .RES_5_L := two_bytes rfl rfl
theorem RES_5_mHL : Statement .RES_5_mHL := two_bytes rfl rfl
theorem RES_5_A : Statement .RES_5_A := two_bytes rfl rfl
theorem RES_6_B : Statement .RES_6_B := two_bytes rfl rfl
theorem RES_6_C : Statement .RES_6_C := two_bytes rfl rfl
theorem RES_6_D : Statement .RES_6_D := two_bytes rfl rfl
theorem RES_6_E : Statement .RES_6_E := two_bytes rfl rfl
theorem RES_6_H : Statement .RES_6_H := two_bytes rfl rfl
theorem RES_6_L : Statement .RES_6_L := two_bytes rfl rfl
theorem RES_6_mHL : Statement .RES_6_mHL := two_bytes rfl rfl
theorem RES_6_A : Statement .RES_6_A := two_bytes rfl rfl
theorem RES_7_B : Statement .RES_7_B := two_bytes rfl rfl
theorem RES_7_C : Statement .RES_7_C := two_bytes rfl rfl
theorem RES_7_D : Statement .RES_7_D := two_bytes rfl rfl
theorem RES_7_E : Statement .RES_7_E := two_bytes rfl rfl
theorem RES_7_H : Statement .RES_7_H := two_bytes rfl rfl
theorem RES_7_L : Statement .RES_7_L := two_bytes rfl rfl
theorem RES_7_mHL : Statement .RES_7_mHL := two_bytes rfl rfl
theorem RES_7_A : Statement .RES_7_A := two_bytes rfl rfl
theorem SET_0_B : Statement .SET_0_B := two_bytes rfl rfl
theorem SET_0_C : Statement .SET_0_C := two_bytes rfl rfl
theorem SET_0_D : Statement .SET_0_D := two_bytes rfl rfl
theorem SET_0_E : Statement .SET_0_E := two_bytes rfl rfl
theorem SET_0_H : Statement .SET_0_H := two_bytes rfl rfl
theorem SET_0_L : Statement .SET_0_L := two_bytes rfl rfl
theorem SET_0_mHL : Statement .SET_0_mHL := two_bytes rfl rfl
theorem SET_0_A : Statement .SET_0_A := two_bytes rfl rfl
theorem SET_1_B : Statement .SET_1_B := two_bytes rfl rfl
theorem SET_1_C : Statement .SET_1_C := two_bytes rfl rfl
theorem SET_1_D : Statement .SET_1_D := two_bytes rfl rfl
theorem SET_1_E : Statement .SET_1_E := two_bytes rfl rfl
theorem SET_1_H : Statement .SET_1_H := two_bytes rfl rfl
theorem SET_1_L : Statement .SET_1_L := two_bytes rfl rfl
theorem SET_1_mHL : Statement .SET_1_mHL := two_bytes rfl rfl
theorem SET_1_A : Statement .SET_1_A := two_bytes rfl rfl
theorem SET_2_B : Statement .SET_2_B := two_bytes rfl rfl
theorem SET_2_C : Statement .SET_2_C := two_bytes rfl rfl
theorem SET_2_D : Statement .SET_2_D := two_bytes rfl rfl
theorem SET_2_E : Statement .SET_2_E := two_bytes rfl rfl
theorem SET_2_H : Statement .SET_2_H := two_bytes rfl rfl
theorem SET_2_L : Statement .SET_2_L := two_bytes rfl rfl
theorem SET_2_mHL : Statement .SET_2_mHL := two_bytes rfl rfl
theorem SET_2_A : Statement .SET_2_A := two_bytes rfl rfl
theorem SET_3_B : Statement .SET_3_B := two_bytes rfl rfl
theorem SET_3_C : Statement .SET_3_C := two_bytes rfl rfl
theorem SET_3_D : Statement .SET_3_D := two_bytes rfl rfl
theorem SET_3_E : Statement .SET_3_E := two_bytes rfl rfl
theorem SET_3_H : Statement .SET_3_H := two_bytes rfl rfl
theorem SET_3_L : Statement .SET_3_L := two_bytes rfl rfl
theorem SET_3_mHL : Statement .SET_3_mHL := two_bytes rfl rfl
theorem SET_3_A : Statement .SET_3_A := two_bytes rfl rfl
theorem SET_4_B : Statement .SET_4_B := two_bytes rfl rfl
theorem SET_4_C : Statement .SET_4_C := two_bytes rfl rfl
theorem SET_4_D : Statement .SET_4_D := two_bytes rfl rfl
theorem SET_4_E : Statement .SET_4_E := two_bytes rfl rfl
theorem SET_4_H : Statement .SET_4_H := two_bytes rfl rfl
theorem SET_4_L : Statement .SET_4_L := two_bytes rfl rfl
theorem SET_4_mHL : Statement .SET_4_mHL := two_bytes rfl rfl
theorem SET_4_A : Statement .SET_4_A := two_bytes rfl rfl
theorem SET_5_B : Statement .SET_5_B := two_bytes rfl rfl
theorem SET_5_C : Statement .SET_5_C := two_bytes rfl rfl
theorem SET_5_D : Statement .SET_5_D := two_bytes rfl rfl
theorem SET_5_E : Statement .SET_5_E := two_bytes rfl rfl
theorem SET_5_H : Statement .SET_5_H := two_bytes rfl rfl
theorem SET_5_L : Statement .SET_5_L := two_bytes rfl rfl
theorem SET_5_mHL : Statement .SET_5_mHL := two_bytes rfl rfl
theorem SET_5_A : Statement .SET_5_A := two_bytes rfl rfl
theorem SET_6_B : Statement .SET_6_B := two_bytes rfl rfl
theorem SET_6_C : Statement .SET_6_C := two_bytes rfl rfl
theorem SET_6_D : Statement .SET_6_D := two_bytes rfl rfl
theorem SET_6_E : Statement .SET_6_E := two_bytes rfl rfl
theorem SET_6_H : Statement .SET_6_H := two_bytes rfl rfl
theorem SET_6_L : Statement .SET_6_L := two_bytes rfl rfl
theorem SET_6_mHL : Statement .SET_6_mHL := two_bytes rfl rfl
theorem SET_6_A : Statement .SET_6_A := two_bytes rfl rfl
theorem SET_7_B : Statement .SET_7_B := two_bytes rfl rfl
theorem SET_7_C : Statement .SET_7_C := two_bytes rfl rfl
theorem SET_7_D : Statement .SET_7_D := two_bytes rfl rfl
theorem SET_7_E : Statement .SET_7_E := two_bytes rfl rfl
theorem SET_7_H : Statement .SET_7_H := two_bytes rfl rfl
theorem SET_7_L : Statement .SET_7_L := two_bytes rfl rfl
theorem SET_7_mHL : Statement .SET_7_mHL := two_bytes rfl rfl
theorem SET_7_A : Statement .SET_7_A := two_bytes rfl rfl

end Sys2Proof.Laws.Encoding
end

