-- ==== Sys2Proof/Laws/Step.lean ====
section
/-! SUPPORT. The step taken apart once: the equation of each run state, and the inversion `step_cases` that
lists everything a step can do. A proof about steps cites these and never unfolds the engine. -/

namespace Sys2Proof.Machine

@[simp] theorem State.beginStep_cpu (s : State) : s.beginStep.cpu = s.cpu := rfl
@[simp] theorem State.beginStep_irqs (s : State) : s.beginStep.irqs = s.irqs := rfl
@[simp] theorem State.beginStep_params (s : State) : s.beginStep.params = s.params := rfl
@[simp] theorem State.beginStep_mem (s : State) : s.beginStep.bus.mem = s.bus.mem := rfl
@[simp] theorem State.beginStep_answers (s : State) : s.beginStep.bus.answers = s.bus.answers := rfl
@[simp] theorem State.beginStep_log (s : State) : s.beginStep.bus.log = [] := rfl
@[simp] theorem State.endStep_cpu (s : State) : s.endStep.cpu = s.cpu := rfl
@[simp] theorem State.endStep_bus (s : State) : s.endStep.bus = s.bus := rfl
@[simp] theorem State.endStep_irqs (s : State) : s.endStep.irqs = s.irqs.tail := rfl
@[simp] theorem State.endStep_params (s : State) : s.endStep.params = s.params := rfl
@[simp] theorem State.endStep_out (s : State) : s.endStep.out = s.out := rfl

@[simp] theorem finish_next (p : Bool) (t : State) :
    finish p (.next t) = .next (t.promoteIme p).endStep := rfl

/-- R156: what the promotion changes. -/
theorem State.promoteIme_eq (s : State) (p : Bool) :
    s.promoteIme p =
      { s with cpu := { s.cpu with
          ime := s.cpu.ime || (p && s.cpu.imePending)
          imePending := s.cpu.imePending && !p } } := by
  obtain ⟨⟨a, f, b, c, d, e, h, l, sp, pc, ime, q, hb, run, cy⟩, bus, irqs, params, out⟩ := s
  cases p <;> cases q <;> cases ime <;> rfl

theorem step_faulted {s : State} {rec : FaultRecord} (h : s.cpu.run = .faulted rec) :
    step s = .fault (.unimplementedOpcode rec) := by
  simp [step, runStep, h]

theorem step_halted {s : State} (h : s.cpu.run = .halted) : step s = runHalted s.beginStep := by
  simp [step, runStep, h]

theorem step_running {s : State} (h : s.cpu.run = .running) : step s = runRunning s.beginStep := by
  simp [step, runStep, h]

theorem runHalted_terminal {s : State} (h : s.params.haltMode = .terminal) :
    runHalted s = .next (s.report (.halted 0)).endStep := by
  simp [runHalted, h]

theorem runHalted_idle {s : State} (h : s.params.haltMode = .hardware) (hi : s.irq = 0) :
    runHalted s =
      .next ((s.addCycles (inUnit s.params.cycleUnit 4)).report
        (.halted (inUnit s.params.cycleUnit 4))).endStep := by
  simp [runHalted, h, hi]

theorem runHalted_wakes {s : State} (h : s.params.haltMode = .hardware) (hi : s.irq ≠ 0) :
    runHalted s = runRunning (s.setRun .running) := by
  unfold runHalted
  rw [h]
  exact if_neg hi

theorem runRunning_interrupt {s : State} (h : s.takesInterrupt = true) :
    runRunning s = .next s.interruptEntry.endStep := by
  simp [runRunning, h]

theorem runRunning_fetches {s : State} (h : s.takesInterrupt = false) :
    runRunning s = runInstruction s := by
  simp [runRunning, h]

/-- R151: a fetch gives an instruction, which runs, or a record, with which the core faults. -/
theorem runInstruction_cases (s : State) :
    (∃ i t, s.fetchInstr = .instr i t ∧ runInstruction s = finish s.cpu.imePending (exec i t)) ∨
    (∃ rec t, s.fetchInstr = .unimplemented rec t ∧
      runInstruction s = .next (t.enterFaulted s.cpu rec).endStep) := by
  unfold runInstruction
  cases s.fetchInstr with
  | instr i t => exact .inl ⟨i, t, rfl, rfl⟩
  | unimplemented rec t => exact .inr ⟨rec, t, rfl, rfl⟩

/-- R616: everything a step can do, in the spec's order. The last two cases start from the state `b` that
fetches or is interrupted: the step's own in Running, the woken one in Halted. -/
theorem step_cases (s : State) :
    (∃ rec, s.cpu.run = .faulted rec ∧ step s = .fault (.unimplementedOpcode rec)) ∨
    (s.cpu.run = .halted ∧ s.params.haltMode = .terminal ∧
      step s = .next (s.beginStep.report (.halted 0)).endStep) ∨
    (s.cpu.run = .halted ∧ s.params.haltMode = .hardware ∧ s.irq = 0 ∧
      step s = .next ((s.beginStep.addCycles (inUnit s.params.cycleUnit 4)).report
        (.halted (inUnit s.params.cycleUnit 4))).endStep) ∨
    (∃ b : State, ((s.cpu.run = .running ∧ b = s.beginStep) ∨
        (s.cpu.run = .halted ∧ s.params.haltMode = .hardware ∧ s.irq ≠ 0 ∧
          b = s.beginStep.setRun .running)) ∧
      ((b.takesInterrupt = true ∧ step s = .next b.interruptEntry.endStep) ∨
        (b.takesInterrupt = false ∧ step s = runInstruction b))) := by
  have split : ∀ b : State, step s = runRunning b →
      ((b.takesInterrupt = true ∧ step s = .next b.interruptEntry.endStep) ∨
        (b.takesInterrupt = false ∧ step s = runInstruction b)) := by
    intro b hb
    cases ht : b.takesInterrupt with
    | true => exact .inl ⟨rfl, hb.trans (runRunning_interrupt ht)⟩
    | false => exact .inr ⟨rfl, hb.trans (runRunning_fetches ht)⟩
  cases hr : s.cpu.run with
  | faulted rec => exact .inl ⟨rec, rfl, step_faulted hr⟩
  | running => exact .inr (.inr (.inr ⟨_, .inl ⟨rfl, rfl⟩, split _ (step_running hr)⟩))
  | halted =>
    have h0 := step_halted hr
    cases hm : s.params.haltMode with
    | terminal => exact .inr (.inl ⟨rfl, rfl, h0.trans (runHalted_terminal hm)⟩)
    | hardware =>
      by_cases hi : s.irq = 0
      · exact .inr (.inr (.inl ⟨rfl, rfl, hi, h0.trans (runHalted_idle hm hi)⟩))
      · exact .inr (.inr (.inr ⟨_, .inr ⟨rfl, rfl, hi, rfl⟩,
          split _ (h0.trans (runHalted_wakes hm hi))⟩))

end Sys2Proof.Machine
end

