-- ==== Sys2Proof/Tests/Slice0.lean ====
section
/-! SUPPORT. Tests: the well-formedness smoke test, words written out from the spec's encodings, steps of
95_test_vectors.md, and for every statement with hypotheses a concrete state that meets them all. The
expected results come from the spec's own examples, vectors and pseudocode. -/

namespace Sys2Proof.Tests

open Sys2Proof.Machine Sys2Proof.Config Sys2Proof.Claims

/-! ### Well-formedness -/

/-- The one check refuses the one ill-formed shape: a bare `PREFIX`. -/
theorem test_wellFormed_refuses_prefix : Instr.wellFormed (.PREFIX 0x37) = false := by decide

theorem test_wellFormed_accepts : Instr.wellFormed .SWAP_A = true := by decide

/-! ### Decoding: words written out from 30_encoding.md and the opcode table -/

/-- R133, R127, R122: `10 000 000`, alu 0, r8 0. -/
theorem test_decode_ADD_A_B : decode [0b10000000] = .ok (.ADD_A_B, []) := by decide

/-- R127, R122: `10 111 110`. -/
theorem test_decode_CP_A_mHL : decode [0b10111110] = .ok (.CP_A_mHL, []) := by decide

/-- R127: `11 100 110`, then n8. -/
theorem test_decode_AND_A_n8 : decode [0b11100110, 0x0F] = .ok (.AND_A_n8 0x0F, []) := by decide

/-- R234: `00 111 100`. -/
theorem test_decode_INC_A : decode [0b00111100] = .ok (.INC_A, []) := by decide

/-- R262: `00 11 1001`. -/
theorem test_decode_ADD_HL_SP : decode [0b00111001] = .ok (.ADD_HL_SP, []) := by decide

/-- R419, R130: `00 11 0001`, then the low byte first. -/
theorem test_decode_LD_SP_n16 : decode [0b00110001, 0xFE, 0xFF] = .ok (.LD_SP_n16 0xFFFE, []) := by
  decide

/-- R400: `01 010 000`. -/
theorem test_decode_LD_D_B : decode [0b01010000] = .ok (.LD_D_B, []) := by decide

/-- R561: `01 110 110` is HALT, not `LD (HL),(HL)`. -/
theorem test_decode_HALT : decode [0b01110110] = .ok (.HALT, []) := by decide

/-- R125, R418: `00 11 0010`. -/
theorem test_decode_LD_mHLD_A : decode [0b00110010] = .ok (.LD_mHLD_A, []) := by decide

/-- R422: `11 11 0101`. -/
theorem test_decode_PUSH_AF : decode [0b11110101] = .ok (.PUSH_AF, []) := by decide

/-- R505: `00 1 11 000`, then e8. -/
theorem test_decode_JR_C_e8 : decode [0b00111000, 0xFC] = .ok (.JR_C_e8 0xFC, []) := by decide

/-- R507: `110 01 100`, then the low byte first. -/
theorem test_decode_CALL_Z_a16 : decode [0b11001100, 0x00, 0x02] = .ok (.CALL_Z_a16 0x0200, []) := by
  decide

/-- R511: `11 101 111`. -/
theorem test_decode_RST_0x28 : decode [0b11101111] = .ok (.RST_0x28, []) := by decide

/-- R562: 0x10 and the ignored byte. -/
theorem test_decode_STOP : decode [0x10, 0xAB] = .ok (.STOP 0xAB, []) := by decide

/-- R322: 0xCB, then `00 110 111`. -/
theorem test_decode_SWAP_A : decode [0xCB, 0b00110111] = .ok (.SWAP_A, []) := by decide

/-- R327: 0xCB, then `01 111 110`. -/
theorem test_decode_BIT_7_mHL : decode [0xCB, 0b01111110] = .ok (.BIT_7_mHL, []) := by decide

/-- R331: 0xCB, then `11 111 110`. -/
theorem test_decode_SET_7_mHL : decode [0xCB, 0b11111110] = .ok (.SET_7_mHL, []) := by decide

/-- R135: an unfilled entry is rejected by name. -/
theorem test_decode_rejects_D3 : decode [0xD3, 0x00, 0x00] = .error (.unimplementedOpcode 0xD3) := by
  decide

/-! ### Words numbered as the opcode table numbers them -/

theorem test_tableWord_primary : decodeTableWord 8 0x80 = some .ADD_A_B := by decide

theorem test_tableWord_secondary : decodeTableWord 16 0xCB37 = some .SWAP_A := by decide

theorem test_tableWord_prefix : decodeTableWord 8 0xCB = some (.PREFIX 0x00) := by decide

theorem test_tableWord_unfilled : decodeTableWord 8 0xD3 = none := by decide

/-! ### States for the tests -/

/-- A core state with the bytes `bs` at pc and the cells `more` elsewhere in memory. -/
def start (u : Cpu) (bs : List Byte) (more : List (Word × Byte)) : State :=
  { State.reset with
    cpu := u
    bus :=
      { mem := storeBytes (more.foldl (fun m c => Memory.write m c.1.toNat c.2) []) u.pc bs
        answers := [], log := [] } }

/-- The state an answer carries on with. -/
def nextOf (o : Host.Outcome State Fault Refusal) : Option State :=
  match o with
  | .next t => some t
  | .fault _ => none
  | .refused _ => none

def afterStep (s : State) : Option State := nextOf (step s)

/-- R561, from the table's word: HALT runs as the first instruction after reset. -/
theorem test_withFetchWord_HALT :
    (afterStep (State.reset.withFetchWord 8 0x76)).map (fun t => (t.cpu.run, t.cpu.pc)) =
    some (.halted, 0x0001) := by decide

/-- R330: a prefixed row as the first instruction after reset. -/
theorem test_withFetchWord_SET_3_A :
    (afterStep (State.reset.withFetchWord 16 0xCBDF)).map (fun t => (t.cpu.a, t.cpu.pc)) =
    some (0x08, 0x0002) := by decide

/-! ### Steps of 95_test_vectors.md -/

/-- 95_test_vectors.md V2, R210. -/
theorem test_V2_ADD_A_B :
    (afterStep (start { Cpu.zero with a := 0x80, b := 0x80, pc := 0x0100 } [0x80] [])).map (fun t =>
      (t.cpu.a, t.cpu.pc, t.cpu.f, t.out)) =
    some (0x00, 0x0101, 0x90, .executed 4) := by decide

/-- 95_test_vectors.md V9, R215. -/
theorem test_V9_ADC_A_0xFF :
    (afterStep (start { Cpu.zero with f := 0x10, pc := 0x0100 } [0xCE, 0xFF] [])).map (fun t =>
      (t.cpu.pc, t.cpu.f, t.out)) =
    some (0x0102, 0xB0, .executed 8) := by decide

/-- 95_test_vectors.md V12, R219. -/
theorem test_V12_SBC_A_B :
    (afterStep (start { Cpu.zero with f := 0x10, pc := 0x0100 } [0x98] [])).map (fun t =>
      (t.cpu.a, t.cpu.pc, t.cpu.f, t.out)) =
    some (0xFF, 0x0101, 0x70, .executed 4) := by decide

/-- 95_test_vectors.md V15, R232. -/
theorem test_V15_CP_A_HL :
    (afterStep (start { Cpu.zero with a := 0x10, h := 0xC0, pc := 0x0100 } [0xBE] [(0xC000, 0x20)])).map (fun t =>
      (t.cpu.pc, t.cpu.f, t.out)) =
    some (0x0101, 0x50, .executed 8) := by decide

/-- 95_test_vectors.md V17, R224. -/
theorem test_V17_AND_A_0x0F :
    (afterStep (start { Cpu.zero with a := 0xFF, pc := 0x0100 } [0xE6, 0x0F] [])).map (fun t =>
      (t.cpu.a, t.cpu.pc, t.cpu.f, t.out)) =
    some (0x0F, 0x0102, 0x20, .executed 8) := by decide

/-- 95_test_vectors.md V22, R229. -/
theorem test_V22_OR_A_HL :
    (afterStep (start { Cpu.zero with h := 0xC0, pc := 0x0100 } [0xB6] [])).map (fun t =>
      (t.cpu.pc, t.cpu.f, t.out)) =
    some (0x0101, 0x80, .executed 8) := by decide

/-- 95_test_vectors.md V26, R235. -/
theorem test_V26_INC_HL :
    (afterStep (start { Cpu.zero with h := 0xC0, pc := 0x0100 } [0x34] [(0xC000, 0xFF)])).map (fun t =>
      (t.cpu.pc, t.cpu.f, t.bus.mem.read 0xC000, t.out)) =
    some (0x0101, 0xA0, 0x00, .executed 12) := by decide

/-- 95_test_vectors.md V34, R238. -/
theorem test_V34_DAA_after_SUB_0x00_0x01 :
    (afterStep (start { Cpu.zero with a := 0xFF, f := 0x70, pc := 0x0100 } [0x27] [])).map (fun t =>
      (t.cpu.a, t.cpu.pc, t.cpu.f, t.out)) =
    some (0x99, 0x0101, 0x50, .executed 4) := by decide

/-- 95_test_vectors.md V35, R239. -/
theorem test_V35_CPL :
    (afterStep (start { Cpu.zero with a := 0xFF, f := 0x80, pc := 0x0100 } [0x2F] [])).map (fun t =>
      (t.cpu.a, t.cpu.pc, t.cpu.f, t.out)) =
    some (0x00, 0x0101, 0xE0, .executed 4) := by decide

/-- 95_test_vectors.md V41, R262. -/
theorem test_V41_ADD_HL_DE :
    (afterStep (start { Cpu.zero with f := 0x80, e := 0x01, h := 0xFF, l := 0xFF, pc := 0x0100 } [0x19] [])).map (fun t =>
      (t.cpu.h, t.cpu.l, t.cpu.pc, t.cpu.f, t.out)) =
    some (0x00, 0x00, 0x0101, 0xB0, .executed 8) := by decide

/-- 95_test_vectors.md V45, R264. -/
theorem test_V45_DEC_SP :
    (afterStep (start { Cpu.zero with f := 0xF0, pc := 0x0100 } [0x3B] [])).map (fun t =>
      (t.cpu.sp, t.cpu.pc, t.cpu.f, t.out)) =
    some (0xFFFF, 0x0101, 0xF0, .executed 8) := by decide

/-- 95_test_vectors.md V47, R265. -/
theorem test_V47_ADD_SP_1 :
    (afterStep (start { Cpu.zero with sp := 0x0005, pc := 0x0100 } [0xE8, 0xFF] [])).map (fun t =>
      (t.cpu.sp, t.cpu.pc, t.cpu.f, t.out)) =
    some (0x0004, 0x0102, 0x30, .executed 16) := by decide

/-- 95_test_vectors.md V52, R266. -/
theorem test_V52_LD_HL_SP_1 :
    (afterStep (start { Cpu.zero with pc := 0x0100 } [0xF8, 0xFF] [])).map (fun t =>
      (t.cpu.h, t.cpu.l, t.cpu.pc, t.cpu.f, t.out)) =
    some (0xFF, 0xFF, 0x0102, 0x00, .executed 12) := by decide

/-- 95_test_vectors.md V61, R300. -/
theorem test_V61_RLCA :
    (afterStep (start { Cpu.zero with f := 0x80, pc := 0x0100 } [0x07] [])).map (fun t =>
      (t.cpu.pc, t.cpu.f, t.out)) =
    some (0x0101, 0x00, .executed 4) := by decide

/-- 95_test_vectors.md V66, R313. -/
theorem test_V66_RRC_HL :
    (afterStep (start { Cpu.zero with h := 0xC0, pc := 0x0100 } [0xCB, 0x0E] [(0xC000, 0x01)])).map (fun t =>
      (t.cpu.pc, t.cpu.f, t.bus.mem.read 0xC000, t.out)) =
    some (0x0102, 0x10, 0x80, .executed 16) := by decide

/-- 95_test_vectors.md V70, R320. -/
theorem test_V70_SRA_H :
    (afterStep (start { Cpu.zero with h := 0x81, pc := 0x0100 } [0xCB, 0x2C] [])).map (fun t =>
      (t.cpu.h, t.cpu.pc, t.cpu.f, t.out)) =
    some (0xC0, 0x0102, 0x10, .executed 8) := by decide

/-- 95_test_vectors.md V76, R327. -/
theorem test_V76_BIT_0_HL :
    (afterStep (start { Cpu.zero with h := 0xC0, pc := 0x0100 } [0xCB, 0x46] [(0xC000, 0xFE)])).map (fun t =>
      (t.cpu.pc, t.cpu.f, t.out)) =
    some (0x0102, 0xA0, .executed 12) := by decide

/-- 95_test_vectors.md V79, R330. -/
theorem test_V79_SET_4_H :
    (afterStep (start { Cpu.zero with h := 0xC0, pc := 0x0100 } [0xCB, 0xE4] [])).map (fun t =>
      (t.cpu.h, t.cpu.pc, t.cpu.f, t.out)) =
    some (0xD0, 0x0102, 0x00, .executed 8) := by decide

/-- 95_test_vectors.md V93, R403. -/
theorem test_V93_LD_HL_H :
    (afterStep (start { Cpu.zero with h := 0xC0, l := 0xA0, pc := 0x0100 } [0x74] [])).map (fun t =>
      (t.cpu.pc, t.cpu.f, t.bus.mem.read 0xC0A0, t.out)) =
    some (0x0101, 0x00, 0xC0, .executed 8) := by decide

/-- 95_test_vectors.md V95, R415. -/
theorem test_V95_LD_A_HL :
    (afterStep (start { Cpu.zero with h := 0xFF, l := 0xFF, pc := 0x0100 } [0x2A] [(0xFFFF, 0x0E)])).map (fun t =>
      (t.cpu.a, t.cpu.h, t.cpu.l, t.cpu.pc, t.cpu.f, t.out)) =
    some (0x0E, 0x00, 0x00, 0x0101, 0x00, .executed 8) := by decide

/-- 95_test_vectors.md V99, R409. -/
theorem test_V99_LD_A_0xC000 :
    (afterStep (start { Cpu.zero with pc := 0x0100 } [0xFA, 0x00, 0xC0] [(0xC000, 0xA5)])).map (fun t =>
      (t.cpu.a, t.cpu.pc, t.cpu.f, t.out)) =
    some (0xA5, 0x0103, 0x00, .executed 16) := by decide

/-- 95_test_vectors.md V102, R411. -/
theorem test_V102_LDH_A_C :
    (afterStep (start { Cpu.zero with c := 0xFF, pc := 0x0100 } [0xF2] [(0xFFFF, 0x1F)])).map (fun t =>
      (t.cpu.a, t.cpu.pc, t.cpu.f, t.out)) =
    some (0x1F, 0x0101, 0x00, .executed 8) := by decide

/-- 95_test_vectors.md V105, R420. -/
theorem test_V105_LD_0xC100_SP :
    (afterStep (start { Cpu.zero with sp := 0xFFF8, pc := 0x0100 } [0x08, 0x00, 0xC1] [])).map (fun t =>
      (t.cpu.pc, t.cpu.f, t.bus.mem.read 0xC100, t.bus.mem.read 0xC101, t.out)) =
    some (0x0103, 0x00, 0xF8, 0xFF, .executed 20) := by decide

/-- 95_test_vectors.md V107, R422. -/
theorem test_V107_PUSH_AF :
    (afterStep (start { Cpu.zero with a := 0xAB, f := 0x50, sp := 0x0001, pc := 0x0100 } [0xF5] [])).map (fun t =>
      (t.cpu.sp, t.cpu.pc, t.cpu.f, t.bus.mem.read 0x0000, t.bus.mem.read 0xFFFF, t.out)) =
    some (0xFFFF, 0x0101, 0x50, 0xAB, 0x50, .executed 16) := by decide

/-- 95_test_vectors.md V109, R423. -/
theorem test_V109_POP_HL :
    (afterStep (start { Cpu.zero with sp := 0xFFFF, pc := 0x0200 } [0xE1] [(0xFFFF, 0x34), (0x0000, 0x12)])).map (fun t =>
      (t.cpu.h, t.cpu.l, t.cpu.sp, t.cpu.pc, t.cpu.f, t.out)) =
    some (0x12, 0x34, 0x0001, 0x0201, 0x00, .executed 12) := by decide

/-- 95_test_vectors.md V121, R502. -/
theorem test_V121_JP_NZ_0x0150_Z_1 :
    (afterStep (start { Cpu.zero with f := 0x80, pc := 0x0100 } [0xC2, 0x50, 0x01] [])).map (fun t =>
      (t.cpu.pc, t.cpu.f, t.out)) =
    some (0x0103, 0x80, .executed 12) := by decide

/-- 95_test_vectors.md V125, R504. -/
theorem test_V125_JR_1_at_0xFFFE :
    (afterStep (start { Cpu.zero with pc := 0xFFFE } [0x18, 0x01] [])).map (fun t =>
      (t.cpu.pc, t.cpu.f, t.out)) =
    some (0x0001, 0x00, .executed 12) := by decide

/-- 95_test_vectors.md V128, R506. -/
theorem test_V128_CALL_0x0200 :
    (afterStep (start { Cpu.zero with sp := 0xFFFE, pc := 0x0100 } [0xCD, 0x00, 0x02] [])).map (fun t =>
      (t.cpu.sp, t.cpu.pc, t.cpu.f, t.bus.mem.read 0xFFFD, t.bus.mem.read 0xFFFC, t.out)) =
    some (0xFFFC, 0x0200, 0x00, 0x01, 0x03, .executed 24) := by decide

/-- 95_test_vectors.md V131, R509. -/
theorem test_V131_RET_Z_Z_1 :
    (afterStep (start { Cpu.zero with f := 0x80, sp := 0xFFFC, pc := 0x0200 } [0xC8] [(0xFFFC, 0x03), (0xFFFD, 0x01)])).map (fun t =>
      (t.cpu.sp, t.cpu.pc, t.cpu.f, t.out)) =
    some (0xFFFE, 0x0103, 0x80, .executed 20) := by decide

/-- 95_test_vectors.md V133, R510. -/
theorem test_V133_RETI :
    (afterStep (start { Cpu.zero with sp := 0xFFFC, pc := 0x0200 } [0xD9] [(0xFFFC, 0x03), (0xFFFD, 0x01)])).map (fun t =>
      (t.cpu.sp, t.cpu.pc, t.cpu.ime, t.cpu.f, t.out)) =
    some (0xFFFE, 0x0103, true, 0x00, .executed 16) := by decide

/-- 95_test_vectors.md V134, R511. -/
theorem test_V134_RST_0x38 :
    (afterStep (start { Cpu.zero with sp := 0xFFFE, pc := 0x0100 } [0xFF] [])).map (fun t =>
      (t.cpu.sp, t.cpu.pc, t.cpu.f, t.bus.mem.read 0xFFFD, t.bus.mem.read 0xFFFC, t.out)) =
    some (0xFFFC, 0x0038, 0x00, 0x01, 0x01, .executed 16) := by decide

/-- 95_test_vectors.md V155, R562. -/
theorem test_V155_STOP :
    (afterStep (start { Cpu.zero with pc := 0x0100 } [0x10, 0x00] [])).map (fun t =>
      (t.cpu.pc, t.cpu.run, t.cpu.f, t.out)) =
    some (0x0102, .halted, 0x00, .executed 4) := by decide

/-- 95_test_vectors.md V159, R564. -/
theorem test_V159_EI_with_IME_1 :
    (afterStep (start { Cpu.zero with pc := 0x0100, ime := true } [0xFB] [])).map (fun t =>
      (t.cpu.pc, t.cpu.f, t.out)) =
    some (0x0101, 0x00, .executed 4) := by decide

/-- 95_test_vectors.md V170, R613. -/
theorem test_V170_interrupt_k_0_irq_00101 :
    (afterStep ({ start { Cpu.zero with sp := 0xFFFE, pc := 0x0100, ime := true } [0x00] [] with irqs := [5] })).map (fun t =>
      (t.cpu.sp, t.cpu.pc, t.cpu.ime, t.bus.mem.read 0xFFFD, t.bus.mem.read 0xFFFC, t.out)) =
    some (0xFFFC, 0x0040, false, 0x01, 0x00, .interrupt 20 0) := by decide

/-- 95_test_vectors.md V180, R600. -/
theorem test_V180_illegal_0xD3 :
    (afterStep (start { Cpu.zero with a := 0x12, f := 0xB0, sp := 0xFFFE, pc := 0x0100 } [0xD3] [])).map (fun t =>
      (t.cpu.f, t.out)) =
    some (0xB0, .fault ⟨0x0100, 0xD3, false, 0x00⟩) := by decide

/-- 95_test_vectors.md V182, R160. -/
theorem test_V182_SUB_A_B_outside_a_narrowed_ADMITTED_ROWS :
    (afterStep ({ start { Cpu.zero with a := 0x05, b := 0x01, pc := 0x0100 } [0x90] [] with params := { Params.default with admitted := .only sourceRows } })).map (fun t =>
      (t.cpu.f, t.out)) =
    some (0x00, .fault ⟨0x0100, 0x90, false, 0x00⟩) := by decide

/-- 95_test_vectors.md V184, R600. -/
theorem test_V184_illegal_0xEB_at_0xFFFF :
    (afterStep (start { Cpu.zero with pc := 0xFFFF } [0xEB] [])).map (fun t =>
      (t.cpu.f, t.out)) =
    some (0x00, .fault ⟨0xFFFF, 0xEB, false, 0x00⟩) := by decide

/-! ### Witnesses: states that meet the hypotheses of the statements -/

/-- A plain state with interrupts off and `bs` at 0x0100. -/
def plain (bs : List Byte) : State :=
  start { Cpu.zero with pc := 0x0100, sp := 0xFFFE, h := 0xC0, a := 0x42, f := 0x80 } bs
    [(0xC000, 0x35)]

/-- The same with the HALT bug pending, in hardware mode. -/
def bugged (bs : List Byte) : State :=
  { plain bs with
    cpu := { (plain bs).cpu with haltBug := true }
    params := { Params.default with haltMode := .hardware } }

/-- The same with a request for the sources 1 and 4 and IME = 1. -/
def requested : State :=
  { plain [0x00] with
    cpu := { (plain [0x00]).cpu with ime := true }, irqs := [0b10010] }

/-- Rows admitted: NOP, SUB A,B not among them; the prefix, but no row behind it. -/
def narrow : Params :=
  { Params.default with
    admitted := .only [{ secondary := false, byte := 0x00 }, { secondary := false, byte := 0xCB }] }

theorem witness_DecodeOfEncodeGivesTheInstruction :
    Instr.wellFormed (.LD_HL_SP_e8 0xFE) = true ∧ encode (.LD_HL_SP_e8 0xFE) ++ [0x00] = [0xF8, 0xFE, 0x00] := by
  decide

theorem witness_DecodedBytesAreTheInstructionsEncoding :
    decode [0xC2, 0xFF, 0x7F, 0x76] = .ok (.JP_NZ_a16 0x7FFF, [0x76]) := by decide

theorem witness_ExactlyElevenOpcodesAreUnfilled :
    2 ≤ [(0x00 : Byte), 0x01].length ∧ (0xFD : Byte) ∈ unfilled ∧ (0xFE : Byte) ∉ unfilled := by decide

theorem witness_ResetGivesTheSelectedProfile_zero : State.reset.params.profile = .zero := by decide

theorem witness_ResetGivesTheSelectedProfile_dmg :
    let s := { plain [] with params := { Params.default with profile := .dmgPostBoot } }
    s.params.profile = .dmgPostBoot ∧ s.driverReset.cpu.pc = 0x0100 := by decide

theorem witness_ResetGivesTheSelectedProfile_draw :
    let r : Draw := { a := 1, f := 0xFF, b := 2, c := 3, d := 4, e := 5, h := 6, l := 7, sp := 8 }
    let s := { plain [] with params := { Params.default with profile := .draw r } }
    s.params.profile = .draw r ∧ s.driverReset.cpu.f = 0xF0 := by decide

theorem witness_DaaMakesAdcAndSbcDecimal :
    let s := { plain [] with cpu := { Cpu.zero with a := 0x99, f := 0x10 } }
    99 < 100 ∧ s.cpu.a = bcd 99 ∧ carry s = 1 := by decide

theorem witness_StoresAtHL : (plain [0x77]).bus.mem.Wf := by decide

theorem witness_PopUndoesPushAndRetUndoesCall :
    (plain [0xF5]).bus.answers = [] ∧ (plain [0xF5]).bus.mem.Wf := by decide

/-- Every clause of HALT's rule has a state: terminal; hardware with a request, with and without an
enable pending; hardware without one; hardware with one and IME = 1. -/
theorem witness_HaltHaltsOrSetsTheHaltBug :
    let hw : Params := { Params.default with haltMode := .hardware }
    let s1 := plain [0x76]
    let s2 := { s1 with params := hw, irqs := [0b10000] }
    let s3 := { s2 with cpu := { s2.cpu with imePending := true } }
    let s4 := { s1 with params := hw }
    let s5 := { s2 with cpu := { s2.cpu with ime := true } }
    s1.params.haltMode = .terminal ∧
    (s2.params.haltMode = .hardware ∧ s2.irqs.headD 0 ≠ 0 ∧ s2.cpu.ime = false ∧ s2.cpu.imePending = false) ∧
    (s3.irqs.headD 0 ≠ 0 ∧ s3.cpu.ime = false ∧ s3.cpu.imePending = true) ∧
    s4.irqs.headD 0 = 0 ∧ s5.cpu.ime = true := by decide

/-- A taken and a not-taken row complete (R507, R730). -/
theorem witness_EveryInstructionCostsItsFigure :
    ((nextOf (exec (.CALL_Z_a16 0x1234) (plain []))).map fun t => t.cpu.cycles) = some 24 ∧
    ((nextOf (exec (.CALL_NZ_a16 0x1234) (plain []))).map fun t => t.cpu.cycles) = some 12 := by decide

theorem witness_EveryInstructionMakesItsAccesses :
    ((nextOf (exec .INC_mHL (plain []))).map fun t => t.bus.log) =
    some [.read 0xC000 0x35, .write 0xC000 0x36] := by decide

theorem witness_StoresChangeOnlyTheirBytes :
    (nextOf (exec .PUSH_AF (plain []))).isSome = true ∧ (0xFFFE : Word) ∉ storedAt .PUSH_AF (plain []) ∧
    storedAt .PUSH_AF (plain []) = [0xFFFD, 0xFFFC] := by decide

theorem witness_FlaglessInstructionsLeaveF :
    writesNoFlag (encode .LD_B_A) = true ∧ (nextOf (exec .LD_B_A (plain []))).isSome = true ∧
    writesNoFlag (encode .BIT_0_B) = false := by decide

theorem witness_ControlStateHasFewWriters :
    (nextOf (exec .NOP (plain []))).isSome = true ∧ (nextOf (exec .EI (plain []))).isSome = true := by
  decide

theorem witness_StepRunsTheInstructionAtPc :
    let s := plain [0xC2, 0xFF, 0x7F]
    let i : Instr := .JP_NZ_a16 0x7FFF
    s.cpu.run = .running ∧ s.cpu.ime = false ∧ s.cpu.haltBug = false ∧ i.wellFormed = true ∧
    admits s.params { secondary := false, byte := 0xC2 } = true ∧
    supplies s.bus s.cpu.pc (encode i) = true := by decide

theorem witness_StepRunsTheInstructionAtPc_prefixed :
    let s := { plain [] with
      bus := { (plain []).bus with answers := [0xCB, 0xFE, 0x11] }
      params := { Params.default with
        admitted := .only [{ secondary := false, byte := 0xCB }, { secondary := true, byte := 0xFE }] } }
    s.cpu.run = .running ∧ s.cpu.ime = false ∧ s.cpu.haltBug = false ∧
    admits s.params { secondary := false, byte := 0xCB } = true ∧
    admits s.params { secondary := true, byte := 0xFE } = true ∧
    supplies s.bus s.cpu.pc (encode .SET_7_mHL) = true := by decide

/-- The byte at pc is fetched twice: `LD B,0x06` from the one byte 0x06 (R621). -/
theorem witness_HaltBugFetchesTheOpcodeByteAgain :
    let s := bugged [0x06]
    s.cpu.run = .running ∧ s.cpu.ime = false ∧ s.cpu.haltBug = true ∧
    encode (.LD_B_n8 0x06) = [0x06, 0x06] ∧ s.bus.answer s.cpu.pc = 0x06 ∧
    supplies (s.bus.afterRead s.cpu.pc) s.cpu.pc [0x06] = true ∧
    (afterStep s).map (fun t => (t.cpu.b, t.cpu.pc, t.cpu.haltBug)) = some (0x06, 0x0101, false) := by
  decide

theorem witness_UnimplementedOpcodesFault_unfilled :
    let s := plain [0xD3]
    s.cpu.run = .running ∧ s.cpu.ime = false ∧ s.bus.answer s.cpu.pc = 0xD3 ∧ (0xD3 : Byte) ∈ unfilled := by
  decide

theorem witness_UnimplementedOpcodesFault_not_admitted :
    let s := { plain [0x90] with params := narrow }
    s.cpu.run = .running ∧ s.cpu.ime = false ∧ s.bus.answer s.cpu.pc = 0x90 ∧
    admits s.params { secondary := false, byte := 0x90 } = false := by decide

theorem witness_UnimplementedOpcodesFault_second_byte :
    let s := { plain [0xCB, 0x37] with params := narrow }
    s.cpu.run = .running ∧ s.cpu.ime = false ∧ s.cpu.haltBug = false ∧ s.bus.answer s.cpu.pc = 0xCB ∧
    admits s.params { secondary := false, byte := 0xCB } = true ∧
    (s.bus.afterRead s.cpu.pc).answer (s.cpu.pc + 1) = 0x37 ∧
    admits s.params { secondary := true, byte := 0x37 } = false := by decide

theorem witness_UnimplementedOpcodesFault_second_byte_bug :
    let s := { bugged [0xCB] with params := { narrow with haltMode := .hardware } }
    s.cpu.run = .running ∧ s.cpu.ime = false ∧ s.cpu.haltBug = true ∧ s.bus.answer s.cpu.pc = 0xCB ∧
    (s.bus.afterRead s.cpu.pc).answer s.cpu.pc = 0xCB ∧
    admits s.params { secondary := true, byte := 0xCB } = false := by decide

theorem witness_HaltedCoreIdlesOrWakes :
    let s1 := { plain [] with cpu := { Cpu.zero with run := .halted } }
    let s2 := { s1 with params := { Params.default with haltMode := .hardware } }
    let s3 := { s2 with irqs := [0b00001] }
    (s1.cpu.run = .halted ∧ s1.params.haltMode = .terminal) ∧
    (s2.cpu.run = .halted ∧ s2.params.haltMode = .hardware ∧ s2.irqs.headD 0 = 0) ∧
    (s3.cpu.run = .halted ∧ s3.params.haltMode = .hardware ∧ s3.irqs.headD 0 ≠ 0) := by decide

theorem witness_InterruptEntryPushesPcAndVectors :
    requested.cpu.run = .running ∧ requested.cpu.ime = true ∧ requested.irqs.headD 0 ≠ 0 ∧
    2 ≤ requested.cpu.sp.toNat := by decide

theorem witness_InterruptEntryPushesPcAndVectors_halted :
    let s := { requested with
      cpu := { requested.cpu with run := .halted, sp := 0x0002 }
      params := { Params.default with haltMode := .hardware } }
    s.cpu.run = .halted ∧ s.params.haltMode = .hardware ∧ s.cpu.ime = true ∧ s.irqs.headD 0 ≠ 0 ∧
    2 ≤ s.cpu.sp.toNat := by decide

theorem witness_RetiUndoesInterruptEntry :
    requested.cpu.run = .running ∧ requested.cpu.ime = true ∧ requested.irqs.headD 0 ≠ 0 ∧
    2 ≤ requested.cpu.sp.toNat ∧ requested.bus.answers = [] ∧ requested.bus.mem.Wf := by decide

/-- One state for `i = DI` and for any other instruction. -/
theorem witness_EiTakesEffectAfterOneInstruction :
    let s := { plain [] with cpu := { Cpu.zero with imePending := true } }
    s.cpu.ime = false ∧ s.cpu.imePending = true := by decide

theorem witness_AStoreIsSeenByTheNextFetch :
    let s := { plain [] with cpu := { Cpu.zero with h := 0xC0, pc := 0xC000 } }
    s.bus.answers = [] ∧ s.bus.mem.Wf ∧ s.hl = s.cpu.pc := by decide

theorem witness_StepAlwaysAnswers :
    let rec1 : FaultRecord := { addr := 0, opcode := 0xD3, prefixed := false, opcode2 := 0 }
    let s := { plain [] with cpu := { Cpu.zero with run := .faulted rec1 } }
    s.cpu.run = .faulted rec1 ∧ (plain []).cpu.fault = none := by decide

theorem witness_RequestsAreIgnoredWithImeClear :
    let s := { plain [0x00] with irqs := [0b11111] }
    s.cpu.ime = false ∧ s.params.haltMode = .terminal ∧ (afterStep s).isSome = true := by decide

theorem witness_CyclesNeverInfluenceResults :
    let s := plain [0x76]
    let u := { s with
      cpu := { s.cpu with cycles := 12 }, params := { s.params with cycleUnit := .M }
      out := .executed 3 }
    s ≠ u ∧ forgetTime s = forgetTime u := by decide

theorem witness_StepKeepsTheInvariant :
    (plain [0xF1]).Inv ∧ (afterStep (plain [0xF1])).isSome = true := by decide

theorem witness_ResetMeetsTheInvariant : requested.bus.mem.Wf := by decide

end Sys2Proof.Tests
end

section
/-! PROOFS. The control state and the invariant (10_state.md): what an ordinary effect keeps, what
`exec` and a step can do to the control state, and the statements that follow. -/

namespace Sys2Proof.Machine

/-! ### Ordinary effects -/

/-- `t` comes from `s` by an effect that is no control instruction's: IME and its latch, the HALT-bug
latch, the run state, the parameters and the requests are those of `s`, and neither the low nibble of F
nor the form of memory is spoilt. -/
structure State.Plain (s t : State) : Prop where
  ime : t.cpu.ime = s.cpu.ime
  imePending : t.cpu.imePending = s.cpu.imePending
  haltBug : t.cpu.haltBug = s.cpu.haltBug
  run : t.cpu.run = s.cpu.run
  params : t.params = s.params
  irqs : t.irqs = s.irqs
  low : s.FlagsLowNibbleZero → t.FlagsLowNibbleZero
  mem : s.bus.mem.Wf → t.bus.mem.Wf

namespace State.Plain

variable {s t u : State}

theorem refl (s : State) : s.Plain s := ⟨rfl, rfl, rfl, rfl, rfl, rfl, id, id⟩

theorem trans (h : s.Plain t) (k : t.Plain u) : s.Plain u where
  ime := k.ime.trans h.ime
  imePending := k.imePending.trans h.imePending
  haltBug := k.haltBug.trans h.haltBug
  run := k.run.trans h.run
  params := k.params.trans h.params
  irqs := k.irqs.trans h.irqs
  low := k.low ∘ h.low
  mem := k.mem ∘ h.mem

/-! Each update of the state, after an ordinary effect. -/

theorem setReg (h : s.Plain t) {r : Reg8} {v : Byte} : s.Plain (t.setReg r v) :=
  h.trans (by constructor <;> simp [FlagsLowNibbleZero])

theorem setPc (h : s.Plain t) {v : Word} : s.Plain (t.setPc v) :=
  h.trans (by constructor <;> simp [FlagsLowNibbleZero])

theorem setR16 (h : s.Plain t) {rr : R16} {v : Word} : s.Plain (t.setR16 rr v) :=
  h.trans (by constructor <;> simp [FlagsLowNibbleZero])

theorem stepHL (h : s.Plain t) {m : R16Mem} : s.Plain (t.stepHL m) :=
  h.trans (by constructor <;> simp [FlagsLowNibbleZero])

theorem setFlags (h : s.Plain t) {f : Flags} : s.Plain (t.setFlags f) :=
  h.trans (by constructor <;> simp [FlagsLowNibbleZero])

theorem memRead (h : s.Plain t) {a : Word} : s.Plain (t.memRead a).2 :=
  h.trans (by constructor <;> simp [FlagsLowNibbleZero])

theorem memWrite (h : s.Plain t) {a : Word} {v : Byte} : s.Plain (t.memWrite a v) :=
  h.trans { (refl t) with mem := fun hm => t.bus.afterWrite_wf hm a v }

theorem charge (h : s.Plain t) {n : Nat} : s.Plain (t.charge n) :=
  h.trans (by constructor <;> simp [FlagsLowNibbleZero])

/-- R423, R36: POP AF clears the low nibble of F. -/
theorem setR16Stk (h : s.Plain t) {rr : R16Stk} {v : Word} : s.Plain (t.setR16Stk rr v) := by
  cases rr with
  | af => exact h.trans { (refl t) with low := fun _ => BitVec.extractLsb'_append_eq_right }
  | bc => exact h.setR16 (rr := .bc) (v := v)
  | de => exact h.setR16 (rr := .de) (v := v)
  | hl => exact h.setR16 (rr := .hl) (v := v)

theorem readOpnd (h : s.Plain t) {o : Opnd8} : s.Plain (t.readOpnd o).2 := by
  cases o with
  | reg r => exact h
  | hl => exact h.memRead

theorem writeOpnd (h : s.Plain t) {o : Opnd8} {v : Byte} : s.Plain (t.writeOpnd o v) := by
  cases o with
  | reg r => exact h.setReg
  | hl => exact h.memWrite

theorem push16 (h : s.Plain t) {v : Word} : s.Plain (t.push16 v) :=
  h.setR16.memWrite.setR16.memWrite

theorem pop16 (h : s.Plain t) : s.Plain t.pop16.2 := by
  dsimp only [State.pop16]
  exact h.memRead.setR16.memRead.setR16

theorem fetch8 (h : s.Plain t) : s.Plain t.fetch8.2 := h.memRead.setPc

theorem fetchBytes (h : s.Plain t) {n : Nat} : s.Plain (t.fetchBytes n).2 := by
  induction n generalizing t with
  | zero => exact h
  | succ n ih => exact ih h.fetch8

theorem modifyOpnd (h : s.Plain t) {f : Byte → Flags → Byte × Flags} {o : Opnd8} :
    s.Plain (modifyOpnd f o t) :=
  h.readOpnd.writeOpnd.setFlags

theorem testBit (h : s.Plain t) {b : B3} {o : Opnd8} : s.Plain (testBit b o t) :=
  h.readOpnd.setFlags

theorem changeBit (h : s.Plain t) {on : Bool} {b : B3} {o : Opnd8} : s.Plain (changeBit on b o t) :=
  h.readOpnd.writeOpnd

theorem aluValue (h : s.Plain t) {op : Alu8} {v : Byte} : s.Plain (aluValue op v t) := by
  cases op with
  | cp => exact h.setFlags
  | _ => exact h.setReg.setFlags

theorem rotateA (h : s.Plain t) {op : Rot8} : s.Plain (rotateA op t) := h.setReg.setFlags

theorem ldRegMem (h : s.Plain t) {r : Reg8} {a : Word} : s.Plain (ldRegMem r a t) :=
  h.memRead.setReg

theorem call (h : s.Plain t) {a : Word} : s.Plain (call a t) := h.push16.setPc

theorem ret (h : s.Plain t) : s.Plain (ret t) := h.pop16.setPc

/-- A completed instruction is as ordinary as its effect. -/
theorem of_done {n : Nat} (h : s.Plain t) (hd : done n t = .next u) : s.Plain u :=
  done_next hd ▸ h.charge

end State.Plain

/-- R500: a conditional instruction takes its effect or none. -/
theorem doneIf_next {cc : Cond} {m n : Nat} {t s u : State} (h : doneIf cc m n t s = .next u) :
    u = t.charge m ∨ u = s.charge n := by
  unfold doneIf at h
  split at h
  · exact .inl (done_next h)
  · exact .inr (done_next h)

theorem State.Plain.of_doneIf {cc : Cond} {m n : Nat} {t s u : State} (h : s.Plain t)
    (hd : doneIf cc m n t s = .next u) : s.Plain u := by
  obtain rfl | rfl := doneIf_next hd
  · exact h.charge
  · exact (refl s).charge

/-- R565, R128: what PREFIX runs, by the group of its second byte: a rotate or BIT below 0x80, and RES
or SET from there on. -/
theorem execPREFIX_cases (op2 : Byte) (s : State) : ∃ n t, execPREFIX op2 s = done n t ∧
    ((op2.toNat < 0x80 ∧
        ((∃ op o, t = modifyOpnd (rot8 op) o s) ∨ ∃ b o, t = testBit b o s)) ∨
      (0x80 ≤ op2.toNat ∧ ∃ on b o, t = changeBit on b o s)) := by
  have hlt := op2.isLt
  have hx : (fieldX op2).toNat = op2.toNat / 64 := by
    simp [fieldX, Nat.shiftRight_eq_div_pow]
    omega
  unfold execPREFIX
  dsimp only
  split
  · exact ⟨_, _, rfl, .inl ⟨by omega, .inl ⟨_, _, rfl⟩⟩⟩
  · exact ⟨_, _, rfl, .inl ⟨by omega, .inr ⟨_, _, rfl⟩⟩⟩
  · exact ⟨_, _, rfl, .inr ⟨by omega, _, _, _, rfl⟩⟩
  · rename_i h0 h1 _
    have : ¬ (fieldX op2).toNat = 0 := h0
    have : ¬ (fieldX op2).toNat = 1 := h1
    exact ⟨_, _, rfl, .inr ⟨by omega, _, _, _, rfl⟩⟩

theorem State.Plain.of_execPREFIX {op2 : Byte} {s t : State} (h : execPREFIX op2 s = .next t) :
    s.Plain t := by
  obtain ⟨n, u, he, ⟨-, ⟨op, o, rfl⟩ | ⟨b, o, rfl⟩⟩ | ⟨-, on, b, o, rfl⟩⟩ := execPREFIX_cases op2 s
  · exact (refl s).modifyOpnd.of_done (he ▸ h)
  · exact (refl s).testBit.of_done (he ▸ h)
  · exact (refl s).changeBit.of_done (he ▸ h)

/-! ### What `exec` does to the control state -/

/-- R40 to R43: an instruction has an ordinary effect, or is one of the five that write the control
state. -/
def ExecCases (i : Instr) : Prop :=
  ∀ s t : State, exec i s = .next t →
    s.Plain t ∨
    (i = .HALT ∧ t = (halt s).charge 4) ∨
    ((∃ n, i = .STOP n) ∧ t = (stop s).charge 4) ∨
    (i = .DI ∧ t = (di s).charge 4) ∨
    (i = .EI ∧ t = (ei s).charge 4) ∨
    (i = .RETI ∧ t = (returnFromInterrupt s).charge 16)

/-- A row whose meaning completes with an ordinary effect. -/
theorem ExecCases.of_done {i : Instr} (n : Nat) (f : State → State) (hf : ∀ s : State, s.Plain (f s))
    (he : ∀ s, exec i s = done n (f s)) : ExecCases i :=
  fun s _ h => .inl ((hf s).of_done (he s ▸ h))

/-- A conditional row whose transfer is an ordinary effect. -/
theorem ExecCases.of_doneIf {i : Instr} (cc : Cond) (m n : Nat) (f : State → State)
    (hf : ∀ s : State, s.Plain (f s)) (he : ∀ s, exec i s = doneIf cc m n (f s) s) : ExecCases i :=
  fun s _ h => .inl ((hf s).of_doneIf (he s ▸ h))

open ExecCases State.Plain in
/-- Everything an instruction can do to the control state. -/
theorem exec_cases (i : Instr) : ExecCases i := by
  induction i using Instr.byForm with
  | ld dst src =>
    cases dst with
    | reg r =>
      cases src with
      | reg q => exact of_done _ _ (fun s => (refl s).setReg) (exec_ldReg r q)
      | hl => exact of_done _ _ (fun s => (refl s).ldRegMem) (exec_ldRegHL r)
    | hl =>
      cases src with
      | reg q => exact of_done _ _ (fun s => (refl s).memWrite) (exec_ldHLReg q)
      | hl => exact fun s t h => .inr (.inl ⟨rfl, done_next h⟩)
  | ldImm dst n =>
    cases dst with
    | reg r => exact of_done _ _ (fun s => (refl s).setReg) (exec_ldImmReg r n)
    | hl => exact of_done _ _ (fun s => (refl s).memWrite) (exec_ldImmHL n)
  | alu op o => exact of_done _ _ (fun s => (refl s).readOpnd.aluValue) (exec_alu op o)
  | aluImm op n => exact of_done _ _ (fun s => (refl s).aluValue) (exec_aluImm op n)
  | inc o => exact of_done _ _ (fun s => (refl s).modifyOpnd) (exec_inc o)
  | dec o => exact of_done _ _ (fun s => (refl s).modifyOpnd) (exec_dec o)
  | ldR16 rr n => exact of_done _ _ (fun s => (refl s).setR16) (exec_ldR16 rr n)
  | addHL rr => exact of_done _ _ (fun s => (refl s).setR16.setFlags) (exec_addHL rr)
  | incR16 rr => exact of_done _ _ (fun s => (refl s).setR16) (exec_incR16 rr)
  | decR16 rr => exact of_done _ _ (fun s => (refl s).setR16) (exec_decR16 rr)
  | storeA m => exact of_done _ _ (fun s => (refl s).memWrite.stepHL) (exec_storeA m)
  | loadA m => exact of_done _ _ (fun s => (refl s).ldRegMem.stepHL) (exec_loadA m)
  | push rr => exact of_done _ _ (fun s => (refl s).push16) (exec_push rr)
  | pop rr => exact of_done _ _ (fun s => (refl s).pop16.setR16Stk) (exec_pop rr)
  | jrCond cc e => exact of_doneIf _ _ _ _ (fun s => (refl s).setPc) (exec_jrCond cc e)
  | jpCond cc a => exact of_doneIf _ _ _ _ (fun s => (refl s).setPc) (exec_jpCond cc a)
  | callCond cc a => exact of_doneIf _ _ _ _ (fun s => (refl s).call) (exec_callCond cc a)
  | retCond cc => exact of_doneIf _ _ _ _ (fun s => (refl s).ret) (exec_retCond cc)
  | rst y => exact of_done _ _ (fun s => (refl s).call) (exec_rst y)
  | rot op o => exact of_done _ _ (fun s => (refl s).modifyOpnd) (exec_rot op o)
  | bit b o => exact of_done _ _ (fun s => (refl s).testBit) (exec_bit b o)
  | res b o => exact of_done _ _ (fun s => (refl s).changeBit) (exec_res b o)
  | set b o => exact of_done _ _ (fun s => (refl s).changeBit) (exec_set b o)
  | rowNOP => exact of_done _ _ refl exec_NOP
  | rowRLCA => exact of_done _ _ (fun s => (refl s).rotateA) exec_RLCA
  | rowLD_ma16_SP a => exact of_done _ _ (fun s => (refl s).memWrite.memWrite) (exec_LD_ma16_SP a)
  | rowRRCA => exact of_done _ _ (fun s => (refl s).rotateA) exec_RRCA
  | rowSTOP n => exact fun s t h => .inr (.inr (.inl ⟨⟨n, rfl⟩, done_next h⟩))
  | rowRLA => exact of_done _ _ (fun s => (refl s).rotateA) exec_RLA
  | rowJR_e8 e => exact of_done _ _ (fun s => (refl s).setPc) (exec_JR_e8 e)
  | rowRRA => exact of_done _ _ (fun s => (refl s).rotateA) exec_RRA
  | rowDAA => exact of_done _ _ (fun s => (refl s).setReg.setFlags) exec_DAA
  | rowCPL => exact of_done _ _ (fun s => (refl s).setReg.setFlags) exec_CPL
  | rowSCF => exact of_done _ _ (fun s => (refl s).setFlags) exec_SCF
  | rowCCF => exact of_done _ _ (fun s => (refl s).setFlags) exec_CCF
  | rowJP_a16 a => exact of_done _ _ (fun s => (refl s).setPc) (exec_JP_a16 a)
  | rowRET => exact of_done _ _ (fun s => (refl s).ret) exec_RET
  | rowPREFIX op2 => exact fun s t h => .inl (of_execPREFIX (exec_PREFIX op2 s ▸ h))
  | rowCALL_a16 a => exact of_done _ _ (fun s => (refl s).call) (exec_CALL_a16 a)
  | rowRETI => exact fun s t h => .inr (.inr (.inr (.inr (.inr ⟨rfl, done_next h⟩))))
  | rowLDH_ma8_A n => exact of_done _ _ (fun s => (refl s).memWrite) (exec_LDH_ma8_A n)
  | rowLDH_mC_A => exact of_done _ _ (fun s => (refl s).memWrite) exec_LDH_mC_A
  | rowADD_SP_e8 e => exact of_done _ _ (fun s => (refl s).setR16.setFlags) (exec_ADD_SP_e8 e)
  | rowJP_HL => exact of_done _ _ (fun s => (refl s).setPc) exec_JP_HL
  | rowLD_ma16_A a => exact of_done _ _ (fun s => (refl s).memWrite) (exec_LD_ma16_A a)
  | rowLDH_A_ma8 n => exact of_done _ _ (fun s => (refl s).ldRegMem) (exec_LDH_A_ma8 n)
  | rowLDH_A_mC => exact of_done _ _ (fun s => (refl s).ldRegMem) exec_LDH_A_mC
  | rowDI => exact fun s t h => .inr (.inr (.inr (.inl ⟨rfl, done_next h⟩)))
  | rowLD_HL_SP_e8 e => exact of_done _ _ (fun s => (refl s).setR16.setFlags) (exec_LD_HL_SP_e8 e)
  | rowLD_SP_HL => exact of_done _ _ (fun s => (refl s).setR16) exec_LD_SP_HL
  | rowLD_A_ma16 a => exact of_done _ _ (fun s => (refl s).ldRegMem) (exec_LD_A_ma16 a)
  | rowEI => exact fun s t h => .inr (.inr (.inr (.inr (.inl ⟨rfl, done_next h⟩))))

/-- R561, R621: HALT halts, sets the HALT-bug latch or does nothing; the latch only where the invariant
allows it. -/
theorem halt_cases (s : State) :
    halt s = s.setRun .halted ∨
    (halt s = s.setHaltBug true ∧ s.params.haltMode = .hardware ∧ s.cpu.ime = false ∧
      s.cpu.imePending = false) ∨
    halt s = s := by
  unfold halt
  split
  · exact .inl rfl
  · rename_i hm
    split
    · rename_i hc
      exact .inr (.inl ⟨rfl, hm, hc.2⟩)
    · split
      · exact .inr (.inr rfl)
      · exact .inl rfl

@[simp] theorem halt_cpu_f (s : State) : (halt s).cpu.f = s.cpu.f := by
  obtain hh | ⟨hh, -⟩ | hh := halt_cases s <;> simp [hh]

/-- R564: EI makes an enable pending if IME is 0. -/
theorem ei_eq (s : State) : ei s = s.setIme s.cpu.ime (s.cpu.imePending || !s.cpu.ime) := by
  unfold ei
  split
  · simp [*]
  · rw [show (s.cpu.imePending || !s.cpu.ime) = s.cpu.imePending by simp_all]
    rfl

/-- Settles O41: of the instructions `exec_cases` lists, each writes the latches its rule names. -/
theorem controlStateHasFewWriters : Obligations.ControlStateHasFewWriters := by
  intro i s t h
  obtain h | ⟨rfl, rfl⟩ | ⟨⟨n, rfl⟩, rfl⟩ | ⟨rfl, rfl⟩ | ⟨rfl, rfl⟩ | ⟨rfl, rfl⟩ := exec_cases i s t h
  · exact ⟨fun _ _ => h.ime, fun _ _ _ => h.imePending, fun _ => h.haltBug, fun _ _ => h.run⟩
  · obtain hh | ⟨hh, -⟩ | hh := halt_cases s <;> simp [hh]
  · simp [stop]
  · simp [di]
  · simp [ei_eq]
  · simp [returnFromInterrupt_eq]

/-! ### The invariant -/

/-- An ordinary effect on a running core keeps the invariant: the core stays Running. -/
theorem State.Plain.inv {s t : State} (h : s.Plain t) (hr : s.cpu.run = .running) (hi : s.Inv) :
    t.Inv := by
  obtain ⟨hlow, ⟨hpend, hbug⟩, -, hmem⟩ := hi
  refine ⟨h.low hlow, ⟨?_, ?_⟩, ?_, h.mem hmem⟩
  · rwa [h.ime, h.imePending]
  · rwa [h.haltBug, h.params, h.ime, h.imePending, h.run]
  · simp [Cpu.recordOk, h.run, hr]

/-- HALT keeps the invariant of a core with no HALT bug pending. -/
theorem halt_inv {s : State} (hr : s.cpu.run = .running) (hb : s.cpu.haltBug = false) (hi : s.Inv) :
    (halt s).Inv := by
  obtain ⟨hlow, ⟨hpend, -⟩, hrec, hmem⟩ := id hi
  obtain hh | ⟨hh, hm, hime, himp⟩ | hh := halt_cases s <;> rw [hh]
  · exact ⟨hlow, ⟨hpend, by simp [hb]⟩, rfl, hmem⟩
  · exact ⟨hlow, ⟨hpend, fun _ => ⟨hm, hime, himp, by simp [hr]⟩⟩, hrec, hmem⟩
  · exact hi

/-- Every instruction keeps the invariant on a running core with no HALT bug pending, which is what a
fetch leaves. -/
theorem exec_inv {i : Instr} {s t : State} (h : exec i s = .next t) (hr : s.cpu.run = .running)
    (hb : s.cpu.haltBug = false) (hi : s.Inv) : t.Inv := by
  obtain ⟨hlow, ⟨hpend, -⟩, hrec, hmem⟩ := id hi
  obtain h | ⟨-, rfl⟩ | ⟨-, rfl⟩ | ⟨-, rfl⟩ | ⟨-, rfl⟩ | ⟨-, rfl⟩ := exec_cases i s t h
  · exact h.inv hr hi
  · exact halt_inv hr hb hi
  · exact ⟨hlow, ⟨hpend, by simp [stop, hb]⟩, rfl, hmem⟩
  · exact ⟨hlow, ⟨by simp [di], by simp [di, hb]⟩, hrec, hmem⟩
  · rw [ei_eq]
    refine ⟨hlow, ⟨fun ⟨hime, himp⟩ => hpend ⟨hime, ?_⟩, by simp [hb]⟩, hrec, hmem⟩
    simp_all
  · rw [returnFromInterrupt_eq]
    exact ⟨hlow, ⟨by simp, by simp [hb]⟩, by simp [Cpu.recordOk, hr], hmem⟩

/-- R156: EI promotion keeps the invariant: with an enable pending the HALT-bug latch is clear. -/
theorem State.promoteIme_inv {s : State} (hi : s.Inv) (p : Bool) : (s.promoteIme p).Inv := by
  unfold State.promoteIme
  split
  · rename_i hp
    obtain ⟨hlow, ⟨hpend, hbug⟩, hrec, hmem⟩ := hi
    have himp : s.cpu.imePending = true := by simp_all
    refine ⟨hlow, ⟨by simp, fun h => ?_⟩, hrec, hmem⟩
    obtain ⟨-, -, hno, -⟩ := hbug h
    exact absurd himp (by simp [hno])
  · exact hi

/-- R613: interrupt entry keeps the invariant: it needs IME = 1, so the HALT-bug latch is clear. -/
theorem State.interruptEntry_inv {s : State} (hr : s.cpu.run = .running)
    (ht : s.takesInterrupt = true) (hi : s.Inv) : s.interruptEntry.Inv := by
  obtain ⟨hlow, ⟨-, hbug⟩, -, hmem⟩ := hi
  have hime : s.cpu.ime = true := by simp_all [State.takesInterrupt]
  rw [State.interruptEntry_eq]
  refine ⟨hlow, ⟨by simp, fun h => ?_⟩, by simp [Cpu.recordOk, hr], ?_⟩
  · obtain ⟨-, hno, -⟩ := hbug h
    exact absurd hime (by simp [hno])
  · exact Bus.afterWrite_wf _ (Bus.afterWrite_wf _ hmem _ _) _ _

/-- R151, R621: the opcode fetch clears the HALT-bug latch and is ordinary otherwise. -/
theorem State.fetchOpcode_plain (s : State) : (s.setHaltBug false).Plain s.fetchOpcode.2 := by
  cases hb : s.cpu.haltBug with
  | true =>
    rw [State.fetchOpcode_of_haltBug hb]
    exact { (State.Plain.refl _) with }
  | false =>
    rw [State.fetchOpcode_eq_fetch8 hb]
    exact State.Plain.trans { (State.Plain.refl s) with haltBug := hb } (State.Plain.refl s).fetch8

/-- What the fetch of `s` gives: it clears the HALT-bug latch and is ordinary otherwise, and a record
names pc, with a second byte only behind 0xCB (R601). -/
def State.Gives (s : State) : Fetched → Prop
  | .instr _ t => (s.setHaltBug false).Plain t
  | .unimplemented rec t => (s.setHaltBug false).Plain t ∧
      ({ s.cpu with run := .faulted rec } : Cpu).recordOk = true

/-- R151, R153. -/
theorem State.gives_fetchInstr (s : State) : s.Gives s.fetchInstr := by
  have hop := s.fetchOpcode_plain
  unfold State.fetchInstr
  dsimp only
  split
  · split
    · exact ⟨hop.fetchBytes, by simp [Cpu.recordOk, State.pc]⟩
    · split
      · rename_i hcb
        exact ⟨hop.fetchBytes, by simp [Cpu.recordOk, State.pc, hcb.1]⟩
      · exact hop.fetchBytes
  · exact ⟨hop, by simp [Cpu.recordOk, State.pc]⟩

/-- R153: entering Faulted keeps the invariant. -/
theorem State.enterFaulted_inv {s t : State} {rec : FaultRecord} (ht : (s.setHaltBug false).Plain t)
    (hrec : ({ s.cpu with run := .faulted rec } : Cpu).recordOk = true) (hi : s.Inv) :
    (t.enterFaulted s.cpu rec).Inv := by
  obtain ⟨hlow, ⟨hpend, hbug⟩, -, hmem⟩ := hi
  refine ⟨hlow, ⟨hpend, fun hb => ?_⟩, hrec, ht.mem hmem⟩
  obtain ⟨hm, hime, himp, -⟩ := hbug hb
  exact ⟨ht.params ▸ hm, hime, himp, by simp [State.enterFaulted]⟩

/-- R151: the instruction of a Running step, or its fault, keeps the invariant. -/
theorem runInstruction_inv {s t : State} (hr : s.cpu.run = .running) (hi : s.Inv)
    (h : runInstruction s = .next t) : t.Inv := by
  have hg := s.gives_fetchInstr
  obtain ⟨i, u, hf, hrun⟩ | ⟨rec, u, hf, hrun⟩ := runInstruction_cases s <;> rw [hf] at hg
  · have hu : u.Inv := by
      obtain ⟨hlow, ⟨hpend, -⟩, hrec, hmem⟩ := hi
      exact State.Plain.inv hg hr ⟨hlow, ⟨hpend, by simp⟩, hrec, hmem⟩
    rw [hrun] at h
    cases he : exec i u with
    | next v =>
      rw [he] at h
      cases h
      exact State.promoteIme_inv (exec_inv he (hg.run.trans hr) hg.haltBug hu) _
    | fault r => rw [he] at h; cases h
    | refused r => rw [he] at h; cases h
  · obtain ⟨hu, hrec⟩ := hg
    rw [hrun] at h
    cases h
    have hf := State.enterFaulted_inv hu hrec hi
    exact hf

/-- The state a step fetches from or is interrupted in is Running and meets the invariant. -/
theorem State.awake_inv {s b : State} (hi : s.Inv)
    (hb : (s.cpu.run = .running ∧ b = s.beginStep) ∨
      (s.cpu.run = .halted ∧ s.params.haltMode = .hardware ∧ s.irq ≠ 0 ∧
        b = s.beginStep.setRun .running)) :
    b.cpu.run = .running ∧ b.Inv := by
  obtain ⟨hr, rfl⟩ | ⟨-, -, -, rfl⟩ := hb
  · exact ⟨hr, hi⟩
  · obtain ⟨hlow, ⟨hpend, hbug⟩, -, hmem⟩ := hi
    refine ⟨rfl, hlow, ⟨hpend, fun h => ?_⟩, rfl, hmem⟩
    obtain ⟨hm, hime, himp, -⟩ := hbug h
    exact ⟨hm, hime, himp, by simp⟩

/-- Settles O53, by the cases of `step_cases`. -/
theorem stepKeepsTheInvariant : Obligations.StepKeepsTheInvariant := by
  intro s t hi h
  obtain ⟨rec, -, hs⟩ | ⟨-, -, hs⟩ | ⟨-, -, -, hs⟩ | ⟨b, hb, ⟨ht, hs⟩ | ⟨-, hs⟩⟩ := step_cases s <;>
    rw [hs] at h
  · cases h
  · cases h
    exact hi
  · cases h
    exact hi
  · cases h
    obtain ⟨hr, hbi⟩ := State.awake_inv hi hb
    exact State.interruptEntry_inv hr ht hbi
  · obtain ⟨hr, hbi⟩ := State.awake_inv hi hb
    exact runInstruction_inv hr hbi h

end Sys2Proof.Machine
end

section
/-! PROOFS. R39: the instructions whose rule lists no flag leave F. -/

namespace Sys2Proof.Machine

open Claims

/-! ### What leaves F -/

@[simp] theorem State.readOpnd_cpu_f (s : State) (o : Opnd8) : (s.readOpnd o).2.cpu.f = s.cpu.f := by
  cases o <;> rfl

@[simp] theorem State.writeOpnd_cpu_f (s : State) (o : Opnd8) (v : Byte) :
    (s.writeOpnd o v).cpu.f = s.cpu.f := by
  cases o with
  | reg r => exact s.setReg_cpu_f r v
  | hl => rfl

@[simp] theorem State.push16_cpu_f (s : State) (v : Word) : (s.push16 v).cpu.f = s.cpu.f := by
  rw [State.push16_eq]

@[simp] theorem State.pop16_cpu_f (s : State) : s.pop16.2.cpu.f = s.cpu.f := by
  rw [State.pop16_state]

@[simp] theorem changeBit_cpu_f (on : Bool) (b : B3) (o : Opnd8) (s : State) :
    (changeBit on b o s).cpu.f = s.cpu.f := by
  simp [changeBit]

@[simp] theorem ldRegMem_cpu_f (r : Reg8) (a : Word) (s : State) :
    (ldRegMem r a s).cpu.f = s.cpu.f := by
  simp [ldRegMem]

@[simp] theorem call_cpu_f (a : Word) (s : State) : (call a s).cpu.f = s.cpu.f := by
  simp [call]

@[simp] theorem ret_cpu_f (s : State) : (ret s).cpu.f = s.cpu.f := by
  simp [ret]

/-! ### The rows -/

/-- An instruction with a flagless opcode leaves F. -/
def LeavesFIfFlagless (i : Instr) : Prop :=
  ∀ s t : State, writesNoFlag (encode i) = true → exec i s = .next t → t.cpu.f = s.cpu.f

namespace LeavesFIfFlagless

/-- A row that completes with an effect which leaves F. -/
theorem of_done {i : Instr} (n : Nat) (f : State → State) (he : ∀ s, exec i s = done n (f s))
    (hf : ∀ s : State, (f s).cpu.f = s.cpu.f) : LeavesFIfFlagless i := by
  intro s t _ h
  rw [he] at h
  rw [done_next h, State.charge_cpu_f, hf]

/-- A conditional row whose transfer leaves F. -/
theorem of_doneIf {i : Instr} (cc : Cond) (m n : Nat) (f : State → State)
    (he : ∀ s, exec i s = doneIf cc m n (f s) s) (hf : ∀ s : State, (f s).cpu.f = s.cpu.f) :
    LeavesFIfFlagless i := by
  intro s t _ h
  rw [he] at h
  obtain rfl | rfl := doneIf_next h
  · exact hf s
  · rfl

/-- A row whose opcode is not among the flagless ones. -/
theorem of_flags {i : Instr} (h : writesNoFlag (encode i) = false) : LeavesFIfFlagless i :=
  fun _ _ hno _ => absurd hno (by simp [h])

end LeavesFIfFlagless

/-! The families that write flags. -/

theorem writesNoFlag_alu (op : Alu8) (o : Opnd8) : writesNoFlag (encode (aluRow op o)) = false := by
  obtain (_ | _ | _ | _ | _ | _ | _) | _ := o <;> cases op <;> rfl

theorem writesNoFlag_aluImm (op : Alu8) (n : Byte) :
    writesNoFlag (encode (aluImmRow op n)) = false := by
  cases op <;> rfl

theorem writesNoFlag_inc (o : Opnd8) : writesNoFlag (encode (incRow o)) = false := by
  obtain (_ | _ | _ | _ | _ | _ | _) | _ := o <;> rfl

theorem writesNoFlag_dec (o : Opnd8) : writesNoFlag (encode (decRow o)) = false := by
  obtain (_ | _ | _ | _ | _ | _ | _) | _ := o <;> rfl

theorem writesNoFlag_addHL (rr : R16) : writesNoFlag (encode (addHLRow rr)) = false := by
  cases rr <;> rfl

theorem writesNoFlag_rot (op : Rot8) (o : Opnd8) : writesNoFlag (encode (rotRow op o)) = false := by
  obtain (_ | _ | _ | _ | _ | _ | _) | _ := o <;> cases op <;> rfl

theorem writesNoFlag_bit (b : B3) (o : Opnd8) : writesNoFlag (encode (bitRow b o)) = false := by
  obtain (_ | _ | _ | _ | _ | _ | _) | _ := o <;> cases b <;> rfl

/-- R39, R128: of the instructions PREFIX selects, RES and SET have the second bytes from 0x80 on. -/
theorem writesNoFlag_PREFIX (op2 : Byte) :
    writesNoFlag (encode (.PREFIX op2)) = decide (0x80 ≤ op2.toNat) := rfl

theorem leavesFIfFlagless_PREFIX (op2 : Byte) : LeavesFIfFlagless (.PREFIX op2) := by
  intro s t hno h
  rw [writesNoFlag_PREFIX, decide_eq_true_eq] at hno
  rw [exec_PREFIX] at h
  obtain ⟨n, u, he, ⟨hlt, -⟩ | ⟨-, on, b, o, rfl⟩⟩ := execPREFIX_cases op2 s
  · omega
  · rw [he] at h
    rw [done_next h, State.charge_cpu_f, changeBit_cpu_f]

open LeavesFIfFlagless in
/-- Each row leaves F or has an opcode that is not among the flagless ones. -/
theorem leavesFIfFlagless (i : Instr) : LeavesFIfFlagless i := by
  induction i using Instr.byForm with
  | ld dst src =>
    cases dst with
    | reg r =>
      cases src with
      | reg q => exact of_done _ _ (exec_ldReg r q) (by simp [ldRegReg])
      | hl => exact of_done _ _ (exec_ldRegHL r) (by simp)
    | hl =>
      cases src with
      | reg q => exact of_done _ _ (exec_ldHLReg q) (by simp)
      | hl => exact of_done _ _ exec_halt halt_cpu_f
  | ldImm dst n =>
    cases dst with
    | reg r => exact of_done _ _ (exec_ldImmReg r n) (by simp)
    | hl => exact of_done _ _ (exec_ldImmHL n) (by simp)
  | alu op o => exact of_flags (writesNoFlag_alu op o)
  | aluImm op n => exact of_flags (writesNoFlag_aluImm op n)
  | inc o => exact of_flags (writesNoFlag_inc o)
  | dec o => exact of_flags (writesNoFlag_dec o)
  | ldR16 rr n => exact of_done _ _ (exec_ldR16 rr n) (by simp)
  | addHL rr => exact of_flags (writesNoFlag_addHL rr)
  | incR16 rr => exact of_done _ _ (exec_incR16 rr) (by simp)
  | decR16 rr => exact of_done _ _ (exec_decR16 rr) (by simp)
  | storeA m => exact of_done _ _ (exec_storeA m) (by simp [storeA])
  | loadA m => exact of_done _ _ (exec_loadA m) (by simp [loadA])
  | push rr => exact of_done _ _ (exec_push rr) (by simp)
  | pop rr =>
    by_cases haf : rr = .af
    · exact of_flags (haf ▸ rfl)
    · exact of_done _ _ (exec_pop rr) (by simp [State.popR16, haf])
  | jrCond cc e => exact of_doneIf _ _ _ _ (exec_jrCond cc e) (by simp [jr])
  | jpCond cc a => exact of_doneIf _ _ _ _ (exec_jpCond cc a) (by simp [jp])
  | callCond cc a => exact of_doneIf _ _ _ _ (exec_callCond cc a) (by simp)
  | retCond cc => exact of_doneIf _ _ _ _ (exec_retCond cc) (by simp)
  | rst y => exact of_done _ _ (exec_rst y) (by simp [rst])
  | rot op o => exact of_flags (writesNoFlag_rot op o)
  | bit b o => exact of_flags (writesNoFlag_bit b o)
  | res b o => exact of_done _ _ (exec_res b o) (by simp)
  | set b o => exact of_done _ _ (exec_set b o) (by simp)
  | rowNOP => exact of_done _ _ exec_NOP (by simp)
  | rowRLCA | rowRRCA | rowRLA | rowRRA => exact of_flags rfl
  | rowDAA | rowCPL | rowSCF | rowCCF => exact of_flags rfl
  | rowADD_SP_e8 e | rowLD_HL_SP_e8 e => exact of_flags rfl
  | rowLD_ma16_SP a => exact of_done _ _ (exec_LD_ma16_SP a) (by simp [storeSp])
  | rowSTOP n => exact of_done _ _ (exec_STOP n) (by simp [stop])
  | rowJR_e8 e => exact of_done _ _ (exec_JR_e8 e) (by simp [jr])
  | rowJP_a16 a => exact of_done _ _ (exec_JP_a16 a) (by simp [jp])
  | rowRET => exact of_done _ _ exec_RET (by simp)
  | rowPREFIX op2 => exact leavesFIfFlagless_PREFIX op2
  | rowCALL_a16 a => exact of_done _ _ (exec_CALL_a16 a) (by simp)
  | rowRETI => exact of_done _ _ exec_RETI (by simp [returnFromInterrupt_eq])
  | rowLDH_ma8_A n => exact of_done _ _ (exec_LDH_ma8_A n) (by simp)
  | rowLDH_mC_A => exact of_done _ _ exec_LDH_mC_A (by simp)
  | rowJP_HL => exact of_done _ _ exec_JP_HL (by simp [jp])
  | rowLD_ma16_A a => exact of_done _ _ (exec_LD_ma16_A a) (by simp)
  | rowLDH_A_ma8 n => exact of_done _ _ (exec_LDH_A_ma8 n) (by simp)
  | rowLDH_A_mC => exact of_done _ _ exec_LDH_A_mC (by simp)
  | rowDI => exact of_done _ _ exec_DI (by simp [di])
  | rowLD_SP_HL => exact of_done _ _ exec_LD_SP_HL (by simp)
  | rowLD_A_ma16 a => exact of_done _ _ (exec_LD_A_ma16 a) (by simp)
  | rowEI => exact of_done _ _ exec_EI (by simp [ei_eq])

/-- Settles O40, row by row. -/
theorem flaglessInstructionsLeaveF : Obligations.FlaglessInstructionsLeaveF :=
  fun i s t => leavesFIfFlagless i s t

end Sys2Proof.Machine
end

section
/-! PROOFS. The pair views (R33 to R35) and reset (R50 to R52, R700). -/

namespace Sys2Proof.Machine

open Claims

/-! ### Bytes and pairs as numbers -/

/-- R33: a pair reads as `high<<8 | low`. -/
theorem joinBytes_toNat (hi lo : Byte) : (joinBytes hi lo).toNat = 256 * hi.toNat + lo.toNat := by
  rw [joinBytes, BitVec.toNat_append, ← Nat.shiftLeft_add_eq_or_of_lt lo.isLt, Nat.shiftLeft_eq,
    Nat.mul_comm]

theorem hiByte_eq_byte (v : Word) : hiByte v = byte (v.toNat / 256) := by
  rw [byte, hiByte, BitVec.extractLsb', Nat.shiftRight_eq_div_pow]

theorem loByte_eq_byte (v : Word) : loByte v = byte v.toNat := rfl

/-- R35: reading a pair after writing it. -/
@[simp] theorem State.r16_setR16 (s : State) (rr : R16) (v : Word) : (s.setR16 rr v).r16 rr = v := by
  cases rr <;> simp [State.r16, State.hl]

/-- R35: writing back what was read. -/
@[simp] theorem State.setR16_r16 (s : State) (rr : R16) : s.setR16 rr (s.r16 rr) = s := by
  cases rr <;> simp [State.setR16, State.r16, State.hl]

/-- Settles O6: both clauses about a pair read or write through its two bytes. -/
theorem pairsReadAndWriteTheirTwoRegisters : Obligations.PairsReadAndWriteTheirTwoRegisters := by
  intro s v
  refine ⟨joinBytes_toNat _ _, joinBytes_toNat _ _, joinBytes_toNat _ _, ?_, ?_, ?_,
    fun rr => ⟨s.r16_setR16 rr v, s.setR16_r16 rr⟩⟩ <;>
  simp only [State.setR16, hiByte_eq_byte, loByte_eq_byte]

/-! ### Reset -/

/-- R52: the drawn F with its low nibble cleared, as a number. -/
theorem and_f0_eq_byte (f : Byte) : f &&& 0xF0 = byte (f.toNat / 16 * 16) := by
  revert f
  decide

/-- R32, R50 to R52: every profile gives an F whose low nibble is 0. -/
theorem resetCpu_low (p : Config.ResetProfile) : (resetCpu p).f.extractLsb' 0 4 = 0 := by
  cases p with
  | zero => rfl
  | dmgPostBoot => rfl
  | draw r =>
    show (r.f &&& 0xF0).extractLsb' 0 4 = 0
    rw [BitVec.extractLsb'_and]
    exact BitVec.and_zero

/-- R50 to R52: every profile starts Running, with every latch clear. -/
theorem resetCpu_control (p : Config.ResetProfile) :
    (resetCpu p).ime = false ∧ (resetCpu p).imePending = false ∧ (resetCpu p).haltBug = false ∧
      (resetCpu p).run = .running := by
  cases p <;> exact ⟨rfl, rfl, rfl, rfl⟩

/-- The driver's reset gives a state that meets the invariant. -/
theorem State.driverReset_inv {s : State} (hm : s.bus.mem.Wf) : s.driverReset.Inv := by
  obtain ⟨hime, -, hbug, hrun⟩ := resetCpu_control s.params.profile
  refine ⟨resetCpu_low _, ⟨?_, ?_⟩, ?_, hm⟩
  · simp [State.driverReset, hime]
  · simp [State.driverReset, hbug]
  · simp [State.driverReset, Cpu.recordOk, hrun]

/-- Settles O54: construction by evaluation, every profile by `resetCpu_low` and `resetCpu_control`. -/
theorem resetMeetsTheInvariant : Obligations.ResetMeetsTheInvariant :=
  ⟨by decide, fun _ => State.driverReset_inv⟩

/-- Settles O5, profile by profile. -/
theorem resetGivesTheSelectedProfile : Obligations.ResetGivesTheSelectedProfile := by
  refine ⟨rfl, rfl, fun s => ⟨rfl, rfl, rfl, rfl, ?_, fun h => ?_, fun h => ?_, fun r h => ?_⟩⟩
  · obtain ⟨-, -, -, hrun⟩ := resetCpu_control s.params.profile
    simp [State.driverReset, Cpu.fault, hrun]
  · simp [State.driverReset, h, resetCpu, State.reset]
  · simp [State.driverReset, h, resetCpu, Cpu.zero]
  · simp only [State.driverReset, h, resetCpu, Cpu.zero, and_f0_eq_byte]

end Sys2Proof.Machine
end

section
/-! PROOFS. The bus accesses of an instruction (20_memory.md): how many data reads and writes each row
makes, and that memory changes at the stored addresses alone. -/

namespace Sys2Proof.Machine

open Claims

/-! ### Memory away from a write -/

theorem Memory.read_memory_cons_of_ne {a b : Nat} (hne : a ≠ b) (v : Byte) (m : Memory) :
    Memory.read (Memory.cons a v m) b = Memory.read m b := by
  unfold Memory.cons
  split
  · rfl
  · rw [Memory.read_cons, if_neg hne]

/-- In canonical form or not, memory keeps what it held at every address but the written one. -/
theorem Memory.read_write_of_ne {a b : Nat} (hne : a ≠ b) (v : Byte) (m : Memory) :
    Memory.read (Memory.write m a v) b = Memory.read m b := by
  induction m with
  | nil => exact Memory.read_memory_cons_of_ne hne v []
  | cons c m ih =>
    obtain ⟨k, w⟩ := c
    unfold Memory.write
    split
    · exact Memory.read_memory_cons_of_ne hne v _
    · split
      · rename_i _ hak
        rw [Memory.read_memory_cons_of_ne hne, Memory.read_cons, if_neg (hak ▸ hne)]
      · rw [Memory.read_cons, Memory.read_cons, ih]

/-! ### What a run of accesses does to the bus -/

/-- The bus goes from `u` to `v` by accesses that are all recorded, `p.1` reads and `p.2` writes, the
writes at addresses of `A` alone. -/
structure Bus.Made (u v : Bus) (p : Nat × Nat) (A : List Word) : Prop where
  log : ∃ l : List Access, v.log = u.log ++ l ∧ (l.countP isRead, l.countP fun x => !isRead x) = p
  mem : ∀ b : Word, b ∉ A → Memory.read v.mem b.toNat = Memory.read u.mem b.toNat

namespace Bus.Made

variable {u v : Bus} {r w : Nat} {A : List Word}

theorem refl (u : Bus) (A : List Word) : u.Made u (0, 0) A := ⟨⟨[], by simp⟩, fun _ _ => rfl⟩

/-- One access more: it is recorded, and memory stays away from `A`. -/
theorem snoc {u' : Bus} {p : Nat × Nat} (h : u.Made v (r, w) A) (x : Access)
    (hlog : u'.log = v.log ++ [x])
    (hp : p = (r + (if isRead x then 1 else 0), w + (if isRead x then 0 else 1)))
    (hmem : ∀ b : Word, b ∉ A → Memory.read u'.mem b.toNat = Memory.read v.mem b.toNat) :
    u.Made u' p A := by
  obtain ⟨⟨l, hl, hc⟩, hm⟩ := h
  obtain ⟨rfl, rfl⟩ := Prod.mk.inj hc
  refine ⟨⟨l ++ [x], by rw [hlog, hl, List.append_assoc], ?_⟩, fun b hb => (hmem b hb).trans (hm b hb)⟩
  cases hx : isRead x <;> simp [hp, hx, List.countP_append]

theorem read (h : u.Made v (r, w) A) (a : Word) : u.Made (v.afterRead a) (r + 1, w) A :=
  h.snoc (.read a (v.answer a)) rfl rfl fun _ _ => rfl

theorem write (h : u.Made v (r, w) A) {a : Word} (ha : a ∈ A) (x : Byte) :
    u.Made (v.afterWrite a x) (r, w + 1) A :=
  h.snoc (.write a x) rfl rfl fun _ hb =>
    Memory.read_write_of_ne (fun e => ne_of_mem_of_not_mem ha hb (BitVec.eq_of_toNat_eq e)) x v.mem

end Bus.Made

/-! ### The accesses of each shared operation -/

/-- R204, R305: the accesses of one use of an r8 operand: one at HL, none for a register. -/
def opndAccesses : Opnd8 → Nat
  | .reg _ => 0
  | .hl => 1

section

variable (s : State) (A : List Word)

theorem State.made_readOpnd (o : Opnd8) : s.bus.Made (s.readOpnd o).2.bus (opndAccesses o, 0) A := by
  cases o with
  | reg r => exact .refl s.bus A
  | hl => exact (Bus.Made.refl s.bus A).read s.hl

variable {A}

/-- An operand read and then written back. -/
theorem State.made_writeOpnd (o : Opnd8) (hA : o = .hl → s.hl ∈ A) (v : Byte) :
    s.bus.Made ((s.readOpnd o).2.writeOpnd o v).bus (opndAccesses o, opndAccesses o) A := by
  cases o with
  | reg r =>
    have hbus : (s.setReg r v).bus = s.bus := s.setReg_bus r v
    exact hbus.symm ▸ Bus.Made.refl s.bus A
  | hl => exact ((Bus.Made.refl s.bus A).read s.hl).write (hA rfl) v

theorem made_modifyOpnd (f : Byte → Flags → Byte × Flags) (o : Opnd8) (hA : o = .hl → s.hl ∈ A) :
    s.bus.Made (modifyOpnd f o s).bus (opndAccesses o, opndAccesses o) A :=
  s.made_writeOpnd o hA _

theorem made_changeBit (on : Bool) (b : B3) (o : Opnd8) (hA : o = .hl → s.hl ∈ A) :
    s.bus.Made (changeBit on b o s).bus (opndAccesses o, opndAccesses o) A :=
  s.made_writeOpnd o hA _

variable (A)

theorem made_testBit (b : B3) (o : Opnd8) : s.bus.Made (testBit b o s).bus (opndAccesses o, 0) A :=
  s.made_readOpnd A o

@[simp] theorem aluValue_bus (op : Alu8) (v : Byte) : (aluValue op v s).bus = s.bus := by
  cases op <;> simp [aluValue]

theorem made_aluOpnd (op : Alu8) (o : Opnd8) :
    s.bus.Made (aluOpnd op o s).bus (opndAccesses o, 0) A := by
  rw [aluOpnd, aluValue_bus]
  exact s.made_readOpnd A o

theorem State.made_pop16 : s.bus.Made s.pop16.2.bus (2, 0) A := by
  rw [s.pop16_state]
  exact ((Bus.Made.refl s.bus A).read _).read _

theorem State.made_popR16 (rr : R16Stk) : s.bus.Made (s.popR16 rr).bus (2, 0) A := by
  rw [State.popR16, State.setR16Stk_bus]
  exact s.made_pop16 A

theorem made_ret : s.bus.Made (ret s).bus (2, 0) A := s.made_pop16 A

theorem made_returnFromInterrupt : s.bus.Made (returnFromInterrupt s).bus (2, 0) A := s.made_pop16 A

theorem made_ldRegMem (r : Reg8) (a : Word) : s.bus.Made (ldRegMem r a s).bus (1, 0) A := by
  rw [ldRegMem, State.setReg_bus]
  exact (Bus.Made.refl s.bus A).read a

theorem made_loadA (m : R16Mem) : s.bus.Made (loadA m s).bus (1, 0) A := by
  rw [loadA, State.stepHL_bus]
  exact made_ldRegMem s A .a _

theorem State.made_memWrite (a : Word) (v : Byte) : s.bus.Made (s.memWrite a v).bus (0, 1) [a] :=
  (Bus.Made.refl s.bus [a]).write (List.mem_singleton_self a) v

theorem made_storeA (m : R16Mem) : s.bus.Made (storeA m s).bus (0, 1) [s.memAddr m] := by
  rw [storeA, State.stepHL_bus]
  exact s.made_memWrite _ _

theorem made_storeSp (a : Word) : s.bus.Made (storeSp a s).bus (0, 2) [a, a + 1] :=
  ((Bus.Made.refl s.bus [a, a + 1]).write (by simp) _).write (by simp) _

theorem State.made_push16 (v : Word) :
    s.bus.Made (s.push16 v).bus (0, 2) [s.cpu.sp - 1, s.cpu.sp - 2] := by
  rw [s.push16_eq]
  exact ((Bus.Made.refl s.bus _).write (by simp) _).write (by simp) _

theorem made_call (a : Word) :
    s.bus.Made (call a s).bus (0, 2) [s.cpu.sp - 1, s.cpu.sp - 2] :=
  s.made_push16 s.cpu.pc

@[simp] theorem halt_bus : (halt s).bus = s.bus := by
  obtain hh | ⟨hh, -⟩ | hh := halt_cases s <;> simp [hh]

end

/-! ### R88 for each family -/

theorem dataAccesses_ldReg (dst src : Reg8) (b : Bool) :
    dataAccesses (encode (ldRow (.reg dst) (.reg src))) b = (0, 0) := by
  cases dst <;> cases src <;> rfl

theorem dataAccesses_ldRegHL (dst : Reg8) (b : Bool) :
    dataAccesses (encode (ldRow (.reg dst) .hl)) b = (1, 0) := by
  cases dst <;> rfl

theorem dataAccesses_ldHLReg (src : Reg8) (b : Bool) :
    dataAccesses (encode (ldRow .hl (.reg src))) b = (0, 1) := by
  cases src <;> rfl

theorem dataAccesses_ldImmReg (dst : Reg8) (n : Byte) (b : Bool) :
    dataAccesses (encode (ldImmRow (.reg dst) n)) b = (0, 0) := by
  cases dst <;> rfl

theorem dataAccesses_alu (op : Alu8) (o : Opnd8) (b : Bool) :
    dataAccesses (encode (aluRow op o)) b = (opndAccesses o, 0) := by
  obtain (_ | _ | _ | _ | _ | _ | _) | _ := o <;> cases op <;> rfl

theorem dataAccesses_aluImm (op : Alu8) (n : Byte) (b : Bool) :
    dataAccesses (encode (aluImmRow op n)) b = (0, 0) := by
  cases op <;> rfl

theorem dataAccesses_inc (o : Opnd8) (b : Bool) :
    dataAccesses (encode (incRow o)) b = (opndAccesses o, opndAccesses o) := by
  obtain (_ | _ | _ | _ | _ | _ | _) | _ := o <;> cases b <;> rfl

theorem dataAccesses_dec (o : Opnd8) (b : Bool) :
    dataAccesses (encode (decRow o)) b = (opndAccesses o, opndAccesses o) := by
  obtain (_ | _ | _ | _ | _ | _ | _) | _ := o <;> cases b <;> rfl

theorem dataAccesses_rot (op : Rot8) (o : Opnd8) (b : Bool) :
    dataAccesses (encode (rotRow op o)) b = (opndAccesses o, opndAccesses o) := by
  obtain (_ | _ | _ | _ | _ | _ | _) | _ := o <;> cases op <;> rfl

theorem dataAccesses_bit (y : B3) (o : Opnd8) (b : Bool) :
    dataAccesses (encode (bitRow y o)) b = (opndAccesses o, 0) := by
  obtain (_ | _ | _ | _ | _ | _ | _) | _ := o <;> cases y <;> rfl

theorem dataAccesses_res (y : B3) (o : Opnd8) (b : Bool) :
    dataAccesses (encode (resRow y o)) b = (opndAccesses o, opndAccesses o) := by
  obtain (_ | _ | _ | _ | _ | _ | _) | _ := o <;> cases y <;> rfl

theorem dataAccesses_set (y : B3) (o : Opnd8) (b : Bool) :
    dataAccesses (encode (setRow y o)) b = (opndAccesses o, opndAccesses o) := by
  obtain (_ | _ | _ | _ | _ | _ | _) | _ := o <;> cases y <;> rfl

/-! ### The rows -/

/-- The accesses of an instruction are those R88 gives for its bytes, and it writes at the addresses its
rule stores to alone. -/
def KeepsToItsAccesses (i : Instr) : Prop :=
  ∀ s t : State, exec i s = .next t →
    s.bus.Made t.bus (dataAccesses (encode i) (opcodeTaken s (encode i))) (storedAt i s)

namespace KeepsToItsAccesses

/-- A row with the same accesses `p` in every state. -/
theorem of_done {i : Instr} {n : Nat} {f : State → State} {p : Nat × Nat}
    (he : ∀ s, exec i s = done n (f s)) (hp : ∀ b, dataAccesses (encode i) b = p)
    (hf : ∀ s : State, s.bus.Made (f s).bus p (storedAt i s)) : KeepsToItsAccesses i := by
  intro s t h
  rw [he] at h
  rw [done_next h, State.charge_bus, hp]
  exact hf s

/-- A row with no data access. -/
theorem of_quiet {i : Instr} {n : Nat} {f : State → State} (he : ∀ s, exec i s = done n (f s))
    (hp : ∀ b, dataAccesses (encode i) b = (0, 0)) (hf : ∀ s : State, (f s).bus = s.bus) :
    KeepsToItsAccesses i :=
  of_done he hp fun s => (hf s).symm ▸ Bus.Made.refl s.bus _

/-- A conditional row with the accesses `p` if it is taken, and none if not. -/
theorem of_doneIf {i : Instr} {cc : Cond} {m n : Nat} {f : State → State} {p : Nat × Nat}
    (he : ∀ s, exec i s = doneIf cc m n (f s) s)
    (ht : ∀ s, opcodeTaken s (encode i) = s.holds cc)
    (hp : ∀ b, dataAccesses (encode i) b = if b then p else (0, 0))
    (hf : ∀ s : State, s.holds cc = true → s.bus.Made (f s).bus p (storedAt i s)) :
    KeepsToItsAccesses i := by
  intro s t h
  rw [he, doneIf] at h
  rw [ht, hp]
  split <;> rename_i hc <;> simp only [hc] at h
  · rw [done_next h, State.charge_bus]
    exact hf s hc
  · rw [done_next h, State.charge_bus]
    exact .refl s.bus _

end KeepsToItsAccesses

/-! R126, R500: the conditional rows. -/

/-- R126: bits 4 and 3 of the opcode name the condition. -/
theorem opcodeTaken_cons {op : Byte} {cc : Cond} (h : op.toNat / 8 % 4 = ccNumber cc)
    (rest : List Byte) (s : State) : opcodeTaken s (op :: rest) = s.holds cc := by
  rw [opcodeTaken, List.headD_cons, h]
  cases cc <;> rfl

theorem opcodeTaken_jrCond (s : State) (cc : Cond) (e : Byte) :
    opcodeTaken s (encode (jrCondRow cc e)) = s.holds cc := by
  cases cc <;> exact opcodeTaken_cons (by decide) _ s

theorem opcodeTaken_jpCond (s : State) (cc : Cond) (a : Word) :
    opcodeTaken s (encode (jpCondRow cc a)) = s.holds cc := by
  cases cc <;> exact opcodeTaken_cons (by decide) _ s

theorem opcodeTaken_callCond (s : State) (cc : Cond) (a : Word) :
    opcodeTaken s (encode (callCondRow cc a)) = s.holds cc := by
  cases cc <;> exact opcodeTaken_cons (by decide) _ s

theorem opcodeTaken_retCond (s : State) (cc : Cond) :
    opcodeTaken s (encode (retCondRow cc)) = s.holds cc := by
  cases cc <;> exact opcodeTaken_cons (by decide) _ s

/-! ### The addresses each family stores to -/

section

variable (s : State)

theorem storedAt_ldHLReg (src : Reg8) : storedAt (ldRow .hl (.reg src)) s = [s.hl] := by
  cases src <;> rfl

theorem storedAt_storeA (m : R16Mem) : storedAt (storeARow m) s = [s.memAddr m] := by
  cases m <;> rfl

theorem storedAt_push (rr : R16Stk) :
    storedAt (pushRow rr) s = [s.cpu.sp - 1, s.cpu.sp - 2] := by
  cases rr <;> rfl

theorem storedAt_rst (y : B3) : storedAt (rstRow y) s = [s.cpu.sp - 1, s.cpu.sp - 2] := by
  cases y <;> rfl

theorem storedAt_callCond (cc : Cond) (a : Word) :
    storedAt (callCondRow cc a) s =
      if s.holds cc then [s.cpu.sp - 1, s.cpu.sp - 2] else [] := by
  cases cc <;> rfl

variable {o : Opnd8}

theorem hl_mem_storedAt_inc (ho : o = .hl) : s.hl ∈ storedAt (incRow o) s := by
  subst ho
  exact List.mem_singleton_self _

theorem hl_mem_storedAt_dec (ho : o = .hl) : s.hl ∈ storedAt (decRow o) s := by
  subst ho
  exact List.mem_singleton_self _

theorem hl_mem_storedAt_rot (op : Rot8) (ho : o = .hl) : s.hl ∈ storedAt (rotRow op o) s := by
  subst ho
  cases op <;> exact List.mem_singleton_self _

theorem hl_mem_storedAt_res (y : B3) (ho : o = .hl) : s.hl ∈ storedAt (resRow y o) s := by
  subst ho
  cases y <;> exact List.mem_singleton_self _

theorem hl_mem_storedAt_set (y : B3) (ho : o = .hl) : s.hl ∈ storedAt (setRow y o) s := by
  subst ho
  cases y <;> exact List.mem_singleton_self _

end

/-! ### PREFIX, by the fields of its second byte -/

theorem fieldX_toNat (op2 : Byte) : (fieldX op2).toNat = op2.toNat / 64 := by
  have hlt := op2.isLt
  simp [fieldX, Nat.shiftRight_eq_div_pow]
  omega

theorem opndOfField_fieldZ (op2 : Byte) :
    opndOfField (fieldZ op2) = .hl ↔ op2.toNat % 8 = 6 := by
  have hfield : ∀ z : BitVec 3, opndOfField z = .hl ↔ z.toNat = 6 := by decide
  rw [hfield]
  simp [fieldZ]

theorem storedAt_PREFIX (op2 : Byte) (s : State) :
    storedAt (.PREFIX op2) s =
      if op2.toNat % 8 = 6 ∧ ¬(0x40 ≤ op2.toNat ∧ op2.toNat < 0x80) then [s.hl] else [] :=
  rfl

theorem hl_mem_storedAt_PREFIX (s : State) {op2 : Byte} (hx : (fieldX op2).toNat ≠ 1)
    (ho : opndOfField (fieldZ op2) = .hl) : s.hl ∈ storedAt (.PREFIX op2) s := by
  rw [opndOfField_fieldZ] at ho
  rw [fieldX_toNat] at hx
  rw [storedAt_PREFIX, if_pos ⟨ho, by omega⟩]
  exact List.mem_singleton_self _

/-- R128, R327: group 1 of the secondary table, BIT, reads its operand; every other row also writes it. -/
theorem dataAccesses_PREFIX (op2 : Byte) (b : Bool) :
    dataAccesses (encode (.PREFIX op2)) b =
      (opndAccesses (opndOfField (fieldZ op2)),
        if (fieldX op2).toNat = 1 then 0 else opndAccesses (opndOfField (fieldZ op2))) := by
  have htable : dataAccesses (encode (.PREFIX op2)) b =
      if op2.toNat % 8 = 6 then (if 0x40 ≤ op2.toNat ∧ op2.toNat < 0x80 then (1, 0) else (1, 1))
      else (0, 0) := rfl
  have hbit : (fieldX op2).toNat = 1 ↔ 0x40 ≤ op2.toNat ∧ op2.toNat < 0x80 := by
    rw [fieldX_toNat]
    omega
  simp only [htable, hbit, ← opndOfField_fieldZ]
  cases opndOfField (fieldZ op2) with
  | reg r => simp [opndAccesses]
  | hl =>
    simp only [opndAccesses, if_true]
    split <;> rfl

theorem keepsToItsAccesses_PREFIX (op2 : Byte) : KeepsToItsAccesses (.PREFIX op2) := by
  intro s t h
  rw [exec_PREFIX, execPREFIX] at h
  rw [dataAccesses_PREFIX]
  split at h <;> rename_i hx <;> rw [done_next h, State.charge_bus]
  · rw [if_neg (by omega)]
    exact made_modifyOpnd s _ _ (hl_mem_storedAt_PREFIX s (by omega))
  · rw [if_pos hx]
    exact made_testBit s _ _ _
  · rw [if_neg (by omega)]
    exact made_changeBit s _ _ _ (hl_mem_storedAt_PREFIX s (by omega))
  · rw [if_neg ‹_›]
    exact made_changeBit s _ _ _ (hl_mem_storedAt_PREFIX s ‹_›)

open KeepsToItsAccesses in
/-- Each row makes its accesses: those of the shared operation it calls. -/
theorem keepsToItsAccesses (i : Instr) : KeepsToItsAccesses i := by
  induction i using Instr.byForm with
  | ld dst src =>
    cases dst with
    | reg r =>
      cases src with
      | reg q => exact of_quiet (exec_ldReg r q) (dataAccesses_ldReg r q) (by simp [ldRegReg])
      | hl => exact of_done (exec_ldRegHL r) (dataAccesses_ldRegHL r) fun s => made_ldRegMem s _ r _
    | hl =>
      cases src with
      | reg q =>
        exact of_done (exec_ldHLReg q) (dataAccesses_ldHLReg q) fun s =>
          (storedAt_ldHLReg s q) ▸ s.made_memWrite _ _
      | hl => exact of_quiet exec_halt (fun _ => rfl) halt_bus
  | ldImm dst n =>
    cases dst with
    | reg r => exact of_quiet (exec_ldImmReg r n) (dataAccesses_ldImmReg r n) (by simp)
    | hl => exact of_done (exec_ldImmHL n) (fun b => by cases b <;> rfl) fun s => s.made_memWrite _ _
  | alu op o => exact of_done (exec_alu op o) (dataAccesses_alu op o) fun s => made_aluOpnd s _ op o
  | aluImm op n => exact of_quiet (exec_aluImm op n) (dataAccesses_aluImm op n) (by simp)
  | inc o =>
    exact of_done (exec_inc o) (dataAccesses_inc o) fun s =>
      made_modifyOpnd s inc8 o (hl_mem_storedAt_inc s)
  | dec o =>
    exact of_done (exec_dec o) (dataAccesses_dec o) fun s =>
      made_modifyOpnd s dec8 o (hl_mem_storedAt_dec s)
  | ldR16 rr n => exact of_quiet (exec_ldR16 rr n) (by cases rr <;> exact fun _ => rfl) (by simp)
  | addHL rr => exact of_quiet (exec_addHL rr) (by cases rr <;> exact fun _ => rfl) (by simp [addHL])
  | incR16 rr => exact of_quiet (exec_incR16 rr) (by cases rr <;> exact fun _ => rfl) (by simp)
  | decR16 rr => exact of_quiet (exec_decR16 rr) (by cases rr <;> exact fun _ => rfl) (by simp)
  | storeA m =>
    exact of_done (exec_storeA m) (by rintro (_ | _) <;> cases m <;> rfl) fun s =>
      (storedAt_storeA s m) ▸ made_storeA s m
  | loadA m =>
    exact of_done (exec_loadA m) (by rintro (_ | _) <;> cases m <;> rfl) fun s => made_loadA s _ m
  | push rr =>
    exact of_done (exec_push rr) (by rintro (_ | _) <;> cases rr <;> rfl) fun s =>
      (storedAt_push s rr) ▸ s.made_push16 _
  | pop rr =>
    exact of_done (exec_pop rr) (by rintro (_ | _) <;> cases rr <;> rfl) fun s => s.made_popR16 _ rr
  | jrCond cc e =>
    exact of_doneIf (exec_jrCond cc e) (opcodeTaken_jrCond · cc e)
      (by rintro (_ | _) <;> cases cc <;> rfl) fun s _ => .refl s.bus _
  | jpCond cc a =>
    exact of_doneIf (exec_jpCond cc a) (opcodeTaken_jpCond · cc a)
      (by rintro (_ | _) <;> cases cc <;> rfl) fun s _ => .refl s.bus _
  | callCond cc a =>
    exact of_doneIf (exec_callCond cc a) (opcodeTaken_callCond · cc a)
      (by rintro (_ | _) <;> cases cc <;> rfl) fun s hc => by
        rw [storedAt_callCond, if_pos hc]
        exact made_call s a
  | retCond cc =>
    exact of_doneIf (exec_retCond cc) (opcodeTaken_retCond · cc)
      (by rintro (_ | _) <;> cases cc <;> rfl) fun s _ => made_ret s _
  | rst y =>
    exact of_done (exec_rst y) (by rintro (_ | _) <;> cases y <;> rfl) fun s =>
      (storedAt_rst s y) ▸ made_call s _
  | rot op o =>
    exact of_done (exec_rot op o) (dataAccesses_rot op o) fun s =>
      made_modifyOpnd s (rot8 op) o (hl_mem_storedAt_rot s op)
  | bit y o => exact of_done (exec_bit y o) (dataAccesses_bit y o) fun s => made_testBit s _ y o
  | res y o =>
    exact of_done (exec_res y o) (dataAccesses_res y o) fun s =>
      made_changeBit s false y o (hl_mem_storedAt_res s y)
  | set y o =>
    exact of_done (exec_set y o) (dataAccesses_set y o) fun s =>
      made_changeBit s true y o (hl_mem_storedAt_set s y)
  | rowNOP => exact of_quiet exec_NOP (fun _ => rfl) fun _ => rfl
  | rowRLCA => exact of_quiet exec_RLCA (fun _ => rfl) fun _ => rfl
  | rowLD_ma16_SP a =>
    exact of_done (exec_LD_ma16_SP a) (by rintro (_ | _) <;> rfl) fun s => made_storeSp s a
  | rowRRCA => exact of_quiet exec_RRCA (fun _ => rfl) fun _ => rfl
  | rowSTOP n => exact of_quiet (exec_STOP n) (fun _ => rfl) fun _ => rfl
  | rowRLA => exact of_quiet exec_RLA (fun _ => rfl) fun _ => rfl
  | rowJR_e8 e => exact of_quiet (exec_JR_e8 e) (fun _ => rfl) fun _ => rfl
  | rowRRA => exact of_quiet exec_RRA (fun _ => rfl) fun _ => rfl
  | rowDAA => exact of_quiet exec_DAA (fun _ => rfl) fun _ => rfl
  | rowCPL => exact of_quiet exec_CPL (fun _ => rfl) fun _ => rfl
  | rowSCF => exact of_quiet exec_SCF (fun _ => rfl) fun _ => rfl
  | rowCCF => exact of_quiet exec_CCF (fun _ => rfl) fun _ => rfl
  | rowJP_a16 a => exact of_quiet (exec_JP_a16 a) (fun _ => rfl) fun _ => rfl
  | rowRET => exact of_done exec_RET (by rintro (_ | _) <;> rfl) fun s => made_ret s _
  | rowPREFIX op2 => exact keepsToItsAccesses_PREFIX op2
  | rowCALL_a16 a => exact of_done (exec_CALL_a16 a) (by rintro (_ | _) <;> rfl) fun s => made_call s a
  | rowRETI =>
    exact of_done exec_RETI (by rintro (_ | _) <;> rfl) fun s => made_returnFromInterrupt s _
  | rowLDH_ma8_A n =>
    exact of_done (exec_LDH_ma8_A n) (by rintro (_ | _) <;> rfl) fun s => s.made_memWrite _ _
  | rowLDH_mC_A => exact of_done exec_LDH_mC_A (by rintro (_ | _) <;> rfl) fun s => s.made_memWrite _ _
  | rowADD_SP_e8 e => exact of_quiet (exec_ADD_SP_e8 e) (fun _ => rfl) fun _ => rfl
  | rowJP_HL => exact of_quiet exec_JP_HL (fun _ => rfl) fun _ => rfl
  | rowLD_ma16_A a =>
    exact of_done (exec_LD_ma16_A a) (by rintro (_ | _) <;> rfl) fun s => s.made_memWrite a _
  | rowLDH_A_ma8 n =>
    exact of_done (exec_LDH_A_ma8 n) (by rintro (_ | _) <;> rfl) fun s => made_ldRegMem s _ .a _
  | rowLDH_A_mC =>
    exact of_done exec_LDH_A_mC (by rintro (_ | _) <;> rfl) fun s => made_ldRegMem s _ .a _
  | rowDI => exact of_quiet exec_DI (fun _ => rfl) fun _ => rfl
  | rowLD_HL_SP_e8 e => exact of_quiet (exec_LD_HL_SP_e8 e) (fun _ => rfl) fun _ => rfl
  | rowLD_SP_HL => exact of_quiet exec_LD_SP_HL (fun _ => rfl) fun _ => rfl
  | rowLD_A_ma16 a =>
    exact of_done (exec_LD_A_ma16 a) (by rintro (_ | _) <;> rfl) fun s => made_ldRegMem s _ .a a
  | rowEI => exact of_quiet exec_EI (fun _ => rfl) (by simp [ei_eq])

/-- Settles O38: the recorded accesses of `keepsToItsAccesses`. -/
theorem everyInstructionMakesItsAccesses : Obligations.EveryInstructionMakesItsAccesses :=
  fun i s t h => (keepsToItsAccesses i s t h).log

/-- Settles O39: the writes of `keepsToItsAccesses` are at the rule's addresses alone. -/
theorem storesChangeOnlyTheirBytes : Obligations.StoresChangeOnlyTheirBytes :=
  fun i s t h => (keepsToItsAccesses i s t h).mem

/-! ### A store and the next fetch -/

/-- Settles O49: on a plain RAM the fetch reads memory, where the byte just written stands. -/
theorem aStoreIsSeenByTheNextFetch : Obligations.AStoreIsSeenByTheNextFetch := by
  intro v s hram hwf hpc
  refine ⟨(s.memWrite s.hl v).charge 12, exec_ldImmHL v s, ?_, rfl⟩
  let u := s.bus.afterWrite s.hl v
  have hans : u.answers = [] := hram
  calc u.answer s.cpu.pc = Memory.read u.mem s.cpu.pc.toNat := Bus.answer_of_ram hans _
    _ = v := by rw [s.bus.read_afterWrite hwf, if_pos hpc]

end Sys2Proof.Machine
end

section
/-! PROOFS. The decoder and the encoder (30_encoding.md): the two tables read as bytes, what `decode`
does by the entry it finds, and that `decode` and `encode` undo each other. -/

namespace Sys2Proof

open Claims

/-! ### The primary map, row by row -/

/-- R133: the primary map as its sixteen rows. -/
def primaryRows (n8 : Byte) (n16 : Word) : List (List (Option Instr)) :=
  [primaryRow0 n8 n16, primaryRow1 n8 n16, primaryRow2 n8 n16, primaryRow3 n8 n16,
   primaryRow4 n8 n16, primaryRow5 n8 n16, primaryRow6 n8 n16, primaryRow7 n8 n16,
   primaryRow8 n8 n16, primaryRow9 n8 n16, primaryRowA n8 n16, primaryRowB n8 n16,
   primaryRowC n8 n16, primaryRowD n8 n16, primaryRowE n8 n16, primaryRowF n8 n16]

/-- R133: the entry in the row and the column that the two digits of an opcode name. -/
def primaryEntry (op n8 : Byte) (n16 : Word) : Option Instr :=
  ((primaryRows n8 n16).getD (op.toNat / 16) []).getD (op.toNat % 16) none

/-- In rows of sixteen, laid end to end, an index is its row and its column. -/
theorem getD_flatten_rows {α : Type} (d : α) (rows : List (List α)) (hrows : ∀ r ∈ rows, r.length = 16)
    (k : Nat) : rows.flatten.getD k d = (rows.getD (k / 16) []).getD (k % 16) d := by
  induction rows generalizing k with
  | nil => simp
  | cons r rows ih =>
    have hr : r.length = 16 := hrows r List.mem_cons_self
    rw [List.flatten_cons]
    by_cases hk : k < 16
    · rw [List.getD_append _ _ _ _ (by omega), Nat.div_eq_of_lt hk, Nat.mod_eq_of_lt hk,
        List.getD_cons_zero]
    · obtain ⟨k, rfl⟩ := Nat.exists_eq_add_of_le' (Nat.le_of_not_lt hk)
      rw [List.getD_append_right _ _ _ _ (by omega), hr, Nat.add_sub_cancel,
        ih (fun q hq => hrows q (List.mem_cons_of_mem r hq)), Nat.add_div_right _ (by decide),
        Nat.add_mod_right, List.getD_cons_succ]

theorem decodePrimary_eq (op b1 b2 : Byte) :
    decodePrimary op b1 b2 = primaryEntry op b1 (joinBytes b2 b1) := by
  have hmap : ∀ n8 n16, primaryMap n8 n16 = (primaryRows n8 n16).flatten := fun n8 n16 => by
    simp [primaryMap, primaryRows]
  rw [decodePrimary, hmap]
  exact getD_flatten_rows none _ (by simp [primaryRows, primaryRow0, primaryRow1, primaryRow2,
    primaryRow3, primaryRow4, primaryRow5, primaryRow6, primaryRow7, primaryRow8, primaryRow9,
    primaryRowA, primaryRowB, primaryRowC, primaryRowD, primaryRowE, primaryRowF]) _

/-! ### The two tables as bytes -/

/-- R132: the bytes of the entry of `op` with the immediates it may take. -/
def entryBytes (op n8 : Byte) (n16 : Word) : List Byte :=
  if opLength op = 3 then [op, loByte n16, hiByte n16] else if opLength op = 2 then [op, n8] else [op]

/-- R133, R135: the bytes of the primary entry at index `k`, if it is filled. -/
def bytesAt (n8 : Byte) (n16 : Word) (k : Nat) : Option (List Byte) :=
  if byte k ∈ unfilled then none else some (entryBytes (byte k) n8 n16)

/-- R133, R135: the primary map stands in the order of the opcodes, each filled entry encodes with its
own opcode first, and exactly the eleven opcodes of R135 are unfilled. -/
theorem encode_primaryRow (n8 : Byte) (n16 : Word) {r : Nat} (hr : r < 16) :
    ((primaryRows n8 n16).getD r []).map (Option.map encode) =
      (List.range' (16 * r) 16).map (bytesAt n8 n16) := by
  interval_cases r <;> rfl

theorem encode_primaryEntry (op n8 : Byte) (n16 : Word) :
    (primaryEntry op n8 n16).map encode =
      if op ∈ unfilled then none else some (entryBytes op n8 n16) := by
  have hlt : op.toNat < 256 := op.isLt
  calc (primaryEntry op n8 n16).map encode
      = (((primaryRows n8 n16).getD (op.toNat / 16) []).map (Option.map encode)).getD
          (op.toNat % 16) none := (List.getD_map _ none (Option.map encode)).symm
    _ = bytesAt n8 n16 (16 * (op.toNat / 16) + op.toNat % 16) := by
        rw [encode_primaryRow n8 n16 (by omega), List.getD_eq_getElem _ _ (by simp; omega)]
        simp
    _ = _ := by
        rw [Nat.div_add_mod]
        simp [bytesAt, byte]

theorem decodePrimary_eq_none_iff (op b1 b2 : Byte) :
    decodePrimary op b1 b2 = none ↔ op ∈ unfilled := by
  rw [decodePrimary_eq, ← Option.map_eq_none_iff (f := encode), encode_primaryEntry]
  simp

theorem encode_of_decodePrimary {op b1 b2 : Byte} {i : Instr} (h : decodePrimary op b1 b2 = some i) :
    encode i = entryBytes op b1 (joinBytes b2 b1) := by
  have he := encode_primaryEntry op b1 (joinBytes b2 b1)
  rw [← decodePrimary_eq, h] at he
  split at he
  · cases he
  · exact Option.some.inj he

/-- R134: every byte selects a row of the secondary table, whose bytes are 0xCB and that byte. -/
theorem decodeSecondary_row (op2 : Byte) :
    (decodeSecondary op2).wellFormed = true ∧ encode (decodeSecondary op2) = [0xCB, op2] := by
  revert op2
  decide

/-- R151, R565: the entry that runs is a whole instruction, with the bytes of the entry found. -/
theorem resolvePrefix_row (i : Instr) :
    (resolvePrefix i).wellFormed = true ∧ encode (resolvePrefix i) = encode i := by
  unfold resolvePrefix
  split
  · exact decodeSecondary_row _
  · rename_i h
    refine ⟨?_, rfl⟩
    unfold Instr.wellFormed
    split
    · exact absurd rfl (h _)
    · rfl

theorem resolvePrefix_of_wellFormed {i : Instr} (h : i.wellFormed = true) : resolvePrefix i = i := by
  unfold resolvePrefix
  split
  · cases h
  · rfl

/-! ### The decoder, by the entry it finds -/

theorem opLength_cases (op : Byte) : opLength op = 1 ∨ opLength op = 2 ∨ opLength op = 3 := by
  unfold opLength
  split
  · simp
  · split <;> simp

theorem decode_of_entry {op : Byte} {rest : List Byte} {i : Instr} (hlen : opLength op ≤ rest.length + 1)
    (hi : decodePrimary op (rest.getD 0 0) (rest.getD 1 0) = some i) :
    decode (op :: rest) = .ok (resolvePrefix i, rest.drop (opLength op - 1)) := by
  rw [decode, if_neg (by omega), hi]

theorem decode_of_unfilled {op : Byte} {rest : List Byte} (hlen : opLength op ≤ rest.length + 1)
    (hop : op ∈ unfilled) : decode (op :: rest) = .error (.unimplementedOpcode op) := by
  rw [decode, if_neg (by omega), (decodePrimary_eq_none_iff ..).2 hop]

/-- R152: what an answer of the decoder comes from. -/
theorem decode_ok {bs rest : List Byte} {i : Instr} (h : decode bs = .ok (i, rest)) :
    ∃ op tl j, bs = op :: tl ∧ opLength op ≤ tl.length + 1 ∧
      decodePrimary op (tl.getD 0 0) (tl.getD 1 0) = some j ∧
      i = resolvePrefix j ∧ rest = tl.drop (opLength op - 1) := by
  cases bs with
  | nil => cases h
  | cons op tl =>
    rw [decode] at h
    split at h
    · cases h
    · rename_i hlen
      cases hj : decodePrimary op (tl.getD 0 0) (tl.getD 1 0) with
      | none => rw [hj] at h; cases h
      | some j =>
        rw [hj] at h
        cases h
        exact ⟨op, tl, j, rfl, by omega, hj, rfl, rfl⟩

/-- R130, R132: with enough bytes behind `op`, the bytes of its entry are `op` and those the decoder drops. -/
theorem entryBytes_append_drop {op : Byte} {tl : List Byte} (hlen : opLength op ≤ tl.length + 1) :
    entryBytes op (tl.getD 0 0) (joinBytes (tl.getD 1 0) (tl.getD 0 0)) ++ tl.drop (opLength op - 1) =
      op :: tl := by
  unfold entryBytes
  obtain hop | hop | hop := opLength_cases op <;> rw [hop] at hlen ⊢
  · simp
  · match tl, hlen with
    | [], h => simp at h
    | n :: tl, _ => simp
  · match tl, hlen with
    | [], h => simp at h
    | [n], h => simp at h
    | n :: m :: tl, _ => simp

/-- Settles O2: the entry the decoder finds encodes to the bytes it is found at. -/
theorem decodedBytesAreTheInstructionsEncoding :
    Obligations.DecodedBytesAreTheInstructionsEncoding := by
  intro bs rest i h
  obtain ⟨op, tl, j, rfl, hlen, hj, rfl, rfl⟩ := decode_ok h
  obtain ⟨hwf, henc⟩ := resolvePrefix_row j
  refine ⟨hwf, ?_⟩
  rw [henc, encode_of_decodePrimary hj, entryBytes_append_drop hlen]

theorem decode_secondary (op2 : Byte) (rest : List Byte) :
    decode (0xCB :: op2 :: rest) = .ok (decodeSecondary op2, rest) :=
  decode_of_entry (op := 0xCB) (i := .PREFIX op2) (Nat.le_add_left 2 _)
    ((decodePrimary_eq ..).trans rfl)

/-- Settles O3: the primary map is unfilled at the eleven opcodes alone, the secondary nowhere. -/
theorem exactlyElevenOpcodesAreUnfilled : Obligations.ExactlyElevenOpcodesAreUnfilled := by
  refine ⟨fun op rest hrest => ?_, fun op2 rest => ⟨_, decode_secondary op2 rest⟩⟩
  have hlen : opLength op ≤ rest.length + 1 := by
    obtain hop | hop | hop := opLength_cases op <;> omega
  have hfilled : op ∉ unfilled →
      ∃ i, decode (op :: rest) = .ok (i, rest.drop (opLength op - 1)) := fun hop => by
    obtain ⟨i, hi⟩ := Option.ne_none_iff_exists'.1 (mt (decodePrimary_eq_none_iff ..).1 hop)
    exact ⟨_, decode_of_entry hlen hi⟩
  refine ⟨⟨fun herr => ?_, decode_of_unfilled hlen⟩, hfilled⟩
  by_contra hop
  obtain ⟨i, hi⟩ := hfilled hop
  rw [hi] at herr
  cases herr

/-! ### Every instruction is found at its own bytes -/

/-- The bytes of an instruction decode to it, whatever follows. -/
def Decodes (i : Instr) : Prop := ∀ rest : List Byte, decode (encode i ++ rest) = .ok (i, rest)

namespace Decodes

/-- The entry found at the bytes of `i` is `i`: as it encodes to these bytes, the decoder drops exactly
them. -/
theorem of_entry {i : Instr} (hw : i.wellFormed = true)
    (h : ∀ rest : List Byte, ∃ op tl, encode i ++ rest = op :: tl ∧
      decodePrimary op (tl.getD 0 0) (tl.getD 1 0) = some i) : Decodes i := by
  intro rest
  obtain ⟨op, tl, hbs, hi⟩ := h rest
  have hlen : opLength op ≤ tl.length + 1 := by
    have henc : (encode i).length = opLength op := by
      rw [encode_of_decodePrimary hi]
      unfold entryBytes
      obtain hop | hop | hop := opLength_cases op <;> simp [hop]
    rw [← List.length_cons (a := op), ← hbs, List.length_append]
    omega
  have hdrop := entryBytes_append_drop hlen
  rw [← encode_of_decodePrimary hi, ← hbs] at hdrop
  rw [hbs, decode_of_entry hlen hi, resolvePrefix_of_wellFormed hw, List.append_cancel_left hdrop]

/-- R132: a row with no immediate. -/
theorem of_plain {i : Instr} {op : Byte} (hw : i.wellFormed = true) (henc : encode i = [op])
    (hi : ∀ n8 n16, primaryEntry op n8 n16 = some i) : Decodes i :=
  of_entry hw fun rest => ⟨op, rest, by rw [henc]; rfl, (decodePrimary_eq ..).trans (hi ..)⟩

/-- R130: a row with an 8-bit immediate. -/
theorem of_byte {i : Byte → Instr} {op : Byte} (hw : ∀ n, (i n).wellFormed = true)
    (henc : ∀ n, encode (i n) = [op, n]) (hi : ∀ n8 n16, primaryEntry op n8 n16 = some (i n8))
    (n : Byte) : Decodes (i n) :=
  of_entry (hw n) fun rest => ⟨op, n :: rest, by rw [henc]; rfl, (decodePrimary_eq ..).trans (hi ..)⟩

/-- R130: a row with a 16-bit immediate, low byte first. -/
theorem of_word {i : Word → Instr} {op : Byte} (hw : ∀ n, (i n).wellFormed = true)
    (henc : ∀ n, encode (i n) = [op, loByte n, hiByte n])
    (hi : ∀ n8 n16, primaryEntry op n8 n16 = some (i n16)) (n : Word) : Decodes (i n) := by
  refine of_entry (hw n) fun rest => ⟨op, loByte n :: hiByte n :: rest, by rw [henc]; rfl, ?_⟩
  rw [decodePrimary_eq, hi]
  simp

/-- R134: a row of the secondary table. -/
theorem of_secondary {i : Instr} {op2 : Byte} (henc : encode i = [0xCB, op2])
    (hi : decodeSecondary op2 = i) : Decodes i := by
  intro rest
  rw [henc, ← hi]
  exact decode_secondary op2 rest

end Decodes

open Decodes in
/-- Each family stands in the map where its fields say. -/
theorem decodes (i : Instr) (hw : i.wellFormed = true) : Decodes i := by
  induction i using Instr.byForm with
  | ld dst src =>
    obtain (_ | _ | _ | _ | _ | _ | _) | _ := dst <;>
    obtain (_ | _ | _ | _ | _ | _ | _) | _ := src <;> exact of_plain rfl rfl fun _ _ => rfl
  | ldImm dst n =>
    obtain (_ | _ | _ | _ | _ | _ | _) | _ := dst <;>
      exact of_byte (fun _ => rfl) (fun _ => rfl) (fun _ _ => rfl) n
  | alu op o =>
    obtain (_ | _ | _ | _ | _ | _ | _) | _ := o <;> cases op <;> exact of_plain rfl rfl fun _ _ => rfl
  | aluImm op n =>
    cases op <;> exact of_byte (fun _ => rfl) (fun _ => rfl) (fun _ _ => rfl) n
  | inc o | dec o =>
    obtain (_ | _ | _ | _ | _ | _ | _) | _ := o <;> exact of_plain rfl rfl fun _ _ => rfl
  | ldR16 rr n => cases rr <;> exact of_word (fun _ => rfl) (fun _ => rfl) (fun _ _ => rfl) n
  | addHL rr | incR16 rr | decR16 rr => cases rr <;> exact of_plain rfl rfl fun _ _ => rfl
  | storeA m | loadA m => cases m <;> exact of_plain rfl rfl fun _ _ => rfl
  | push rr | pop rr => cases rr <;> exact of_plain rfl rfl fun _ _ => rfl
  | jrCond cc e => cases cc <;> exact of_byte (fun _ => rfl) (fun _ => rfl) (fun _ _ => rfl) e
  | jpCond cc a | callCond cc a =>
    cases cc <;> exact of_word (fun _ => rfl) (fun _ => rfl) (fun _ _ => rfl) a
  | retCond cc => cases cc <;> exact of_plain rfl rfl fun _ _ => rfl
  | rst y => cases y <;> exact of_plain rfl rfl fun _ _ => rfl
  | rot op o =>
    obtain (_ | _ | _ | _ | _ | _ | _) | _ := o <;> cases op <;> exact of_secondary rfl rfl
  | bit y o | res y o | set y o =>
    obtain (_ | _ | _ | _ | _ | _ | _) | _ := o <;> cases y <;> exact of_secondary rfl rfl
  | rowNOP | rowRLCA | rowRRCA | rowRLA | rowRRA | rowDAA | rowCPL | rowSCF | rowCCF =>
    exact of_plain rfl rfl fun _ _ => rfl
  | rowRET | rowRETI | rowLDH_mC_A | rowJP_HL | rowLDH_A_mC | rowDI | rowLD_SP_HL | rowEI =>
    exact of_plain rfl rfl fun _ _ => rfl
  | rowSTOP n | rowJR_e8 n | rowLDH_ma8_A n | rowADD_SP_e8 n | rowLDH_A_ma8 n | rowLD_HL_SP_e8 n =>
    exact of_byte (fun _ => rfl) (fun _ => rfl) (fun _ _ => rfl) n
  | rowLD_ma16_SP a | rowJP_a16 a | rowCALL_a16 a | rowLD_ma16_A a | rowLD_A_ma16 a =>
    exact of_word (fun _ => rfl) (fun _ => rfl) (fun _ _ => rfl) a
  | rowPREFIX op2 => cases hw

/-- Settles O1, family by family. -/
theorem decodeOfEncodeGivesTheInstruction : Obligations.DecodeOfEncodeGivesTheInstruction :=
  fun i rest hw => decodes i hw rest

/-- Settles O4: the fourteen words are encodings. -/
theorem wordsWrittenInTheSpecDecode : Obligations.WordsWrittenInTheSpecDecode :=
  ⟨decodes .ADD_A_B rfl [], decodes (.AND_A_n8 0x0F) rfl [], decodes .DEC_mHL rfl [],
    decodes .ADD_HL_SP rfl [], decodes (.ADD_SP_e8 0xFF) rfl [], decodes (.LD_SP_n16 0xFFFE) rfl [],
    decodes (.LD_ma16_SP 0xC100) rfl [], decodes .BIT_0_mHL rfl [], decodes .SWAP_A rfl [],
    decodes .SET_7_mHL rfl [], decodes (.JP_NZ_a16 0x0200) rfl [], decodes .RST_0x28 rfl [],
    decodes (.STOP 0x00) rfl [], decodes .HALT rfl []⟩

end Sys2Proof
end

section
/-! PROOFS. Time (R157, R730): every instruction is an effect that neither reads nor writes the clock, and
then its cost. -/

namespace Sys2Proof.Machine

open Claims Config

/-! ### The clock of a state -/

/-- `s` with the cycle count `n`, counted in the unit `u`, and the last report `r`. -/
def State.withClock (s : State) (n : Nat) (u : CycleUnit) (r : Report) : State :=
  { s with cpu := { s.cpu with cycles := n }, params := { s.params with cycleUnit := u }, out := r }

section

variable (s : State) (n : Nat) (u : CycleUnit) (q : Report)

@[simp] theorem State.withClock_reg (r : Reg8) : (s.withClock n u q).reg r = s.reg r := by
  cases r <;> rfl

@[simp] theorem State.withClock_setReg (r : Reg8) (v : Byte) :
    (s.withClock n u q).setReg r v = (s.setReg r v).withClock n u q := by
  cases r <;> rfl

@[simp] theorem State.withClock_r16 (rr : R16) : (s.withClock n u q).r16 rr = s.r16 rr := by
  cases rr <;> rfl

@[simp] theorem State.withClock_setR16 (rr : R16) (v : Word) :
    (s.withClock n u q).setR16 rr v = (s.setR16 rr v).withClock n u q := by
  cases rr <;> rfl

@[simp] theorem State.withClock_holds (cc : Cond) : (s.withClock n u q).holds cc = s.holds cc := by
  cases cc <;> rfl

@[simp] theorem State.withClock_setFlags (f : Flags) :
    (s.withClock n u q).setFlags f = (s.setFlags f).withClock n u q := rfl

@[simp] theorem State.withClock_readOpnd (o : Opnd8) :
    (s.withClock n u q).readOpnd o = ((s.readOpnd o).1, (s.readOpnd o).2.withClock n u q) := by
  cases o with
  | reg r => simp [State.readOpnd]
  | hl => rfl

@[simp] theorem State.withClock_writeOpnd (o : Opnd8) (v : Byte) :
    (s.withClock n u q).writeOpnd o v = (s.writeOpnd o v).withClock n u q := by
  cases o with
  | reg r => exact s.withClock_setReg n u q r v
  | hl => rfl

end

/-! ### Effects apart from the clock -/

/-- The effect neither reads nor writes the cycle count, its unit and the last report. -/
def Untimed (f : State → State) : Prop :=
  ∀ s n u q, f (s.withClock n u q) = (f s).withClock n u q

namespace Untimed

variable {f : State → State}

/-- On the clock it already has. -/
theorem self (h : Untimed f) (s : State) :
    f s = (f s).withClock s.cpu.cycles s.params.cycleUnit s.out :=
  h s s.cpu.cycles s.params.cycleUnit s.out

theorem cycles (h : Untimed f) (s : State) : (f s).cpu.cycles = s.cpu.cycles :=
  congrArg (·.cpu.cycles) (h.self s)

theorem cycleUnit (h : Untimed f) (s : State) : (f s).params.cycleUnit = s.params.cycleUnit :=
  congrArg (·.params.cycleUnit) (h.self s)

theorem forgetTime (h : Untimed f) (s : State) : f (forgetTime s) = forgetTime (f s) :=
  h s 0 .T .none

theorem setReg (r : Reg8) (v : Byte) : Untimed (·.setReg r v) :=
  fun s n u q => s.withClock_setReg n u q r v

theorem ldRegReg (dst src : Reg8) : Untimed (ldRegReg dst src) := fun s n u q => by
  simp [Machine.ldRegReg]

theorem ldRegMem (r : Reg8) (a : State → Word) (ha : ∀ s n u q, a (s.withClock n u q) = a s) :
    Untimed fun s => Machine.ldRegMem r (a s) s := fun s n u q => by
  dsimp only
  rw [ha]
  exact (s.memRead (a s)).2.withClock_setReg n u q r _

theorem setR16 (rr : R16) (v : State → Word) (hv : ∀ s n u q, v (s.withClock n u q) = v s) :
    Untimed fun s => s.setR16 rr (v s) := fun s n u q => by
  simp [hv]

theorem aluValue (op : Alu8) (v : Byte) : Untimed (aluValue op v) := fun s n u q => by
  cases op <;> rfl

theorem aluOpnd (op : Alu8) (o : Opnd8) : Untimed (aluOpnd op o) := fun s n u q => by
  rw [Machine.aluOpnd, State.withClock_readOpnd]
  exact aluValue op _ _ n u q

theorem modifyOpnd (g : Byte → Flags → Byte × Flags) (o : Opnd8) : Untimed (modifyOpnd g o) :=
  fun s n u q => by
    rw [Machine.modifyOpnd, State.withClock_readOpnd]
    simp only [State.withClock_writeOpnd, State.withClock_setFlags]
    rfl

theorem testBit (b : B3) (o : Opnd8) : Untimed (testBit b o) := fun s n u q => by
  rw [Machine.testBit, State.withClock_readOpnd]
  rfl

theorem changeBit (on : Bool) (b : B3) (o : Opnd8) : Untimed (changeBit on b o) := fun s n u q => by
  simp [Machine.changeBit]

theorem halt : Untimed halt := fun s n u q => by
  have hmode : (s.withClock n u q).params.haltMode = s.params.haltMode := rfl
  have hirq : (s.withClock n u q).irq = s.irq := rfl
  have hime : (s.withClock n u q).cpu.ime = s.cpu.ime := rfl
  have himp : (s.withClock n u q).cpu.imePending = s.cpu.imePending := rfl
  simp only [Machine.halt, hmode, hirq, hime, himp]
  split
  · rfl
  · split
    · rfl
    · split <;> rfl

theorem ei : Untimed ei := fun s n u q => by simp only [ei_eq]; rfl

end Untimed

/-! ### The rows of the secondary table -/

/-- A fact about every row of the secondary table, from one fact for each of its groups (R128). -/
theorem decodeSecondary_byForm {P : Instr → Prop} (rot : ∀ op o, P (rotRow op o))
    (bit : ∀ y o, P (bitRow y o)) (res : ∀ y o, P (resRow y o)) (set : ∀ y o, P (setRow y o))
    (op2 : Byte) : P (decodeSecondary op2) := by
  unfold decodeSecondary
  split
  · exact rot _ _
  · exact bit _ _
  · exact res _ _
  · exact set _ _

theorem prefixedCost_eq (o : Opnd8) (mem : Nat) : prefixedCost o mem = opndCost o 8 mem := by
  cases o <;> rfl

/-- R565. -/
theorem exec_PREFIX_eq_decodeSecondary (op2 : Byte) (s : State) :
    exec (.PREFIX op2) s = exec (decodeSecondary op2) s := by
  have hgroup : (fieldX op2).toNat = 0 ∨ (fieldX op2).toNat = 1 ∨ (fieldX op2).toNat = 2 ∨
      (fieldX op2).toNat = 3 := by
    have hlt : (fieldX op2).toNat < 4 := (fieldX op2).isLt
    omega
  rw [exec_PREFIX]
  obtain h | h | h | h := hgroup
  · simp only [execPREFIX, decodeSecondary, h, prefixedCost_eq, exec_rot]
  · simp only [execPREFIX, decodeSecondary, h, prefixedCost_eq, exec_bit]
  · simp only [execPREFIX, decodeSecondary, h, prefixedCost_eq, exec_res]
  · simp only [execPREFIX, decodeSecondary, h, prefixedCost_eq, exec_set]

/-! ### R730 for each family -/

theorem cost_ldReg (dst src : Reg8) (b : Bool) :
    cost (encode (ldRow (.reg dst) (.reg src))) b = 4 := by
  cases dst <;> cases src <;> rfl

theorem cost_ldRegHL (dst : Reg8) (b : Bool) : cost (encode (ldRow (.reg dst) .hl)) b = 8 := by
  cases dst <;> rfl

theorem cost_ldHLReg (src : Reg8) (b : Bool) : cost (encode (ldRow .hl (.reg src))) b = 8 := by
  cases src <;> rfl

theorem cost_ldImmReg (dst : Reg8) (n : Byte) (b : Bool) :
    cost (encode (ldImmRow (.reg dst) n)) b = 8 := by
  cases dst <;> cases b <;> rfl

theorem cost_alu (op : Alu8) (o : Opnd8) (b : Bool) :
    cost (encode (aluRow op o)) b = opndCost o 4 8 := by
  obtain (_ | _ | _ | _ | _ | _ | _) | _ := o <;> cases op <;> rfl

theorem cost_aluImm (op : Alu8) (n : Byte) (b : Bool) : cost (encode (aluImmRow op n)) b = 8 := by
  cases op <;> cases b <;> rfl

theorem cost_inc (o : Opnd8) (b : Bool) : cost (encode (incRow o)) b = opndCost o 4 12 := by
  obtain (_ | _ | _ | _ | _ | _ | _) | _ := o <;> cases b <;> rfl

theorem cost_dec (o : Opnd8) (b : Bool) : cost (encode (decRow o)) b = opndCost o 4 12 := by
  obtain (_ | _ | _ | _ | _ | _ | _) | _ := o <;> cases b <;> rfl

theorem cost_rot (op : Rot8) (o : Opnd8) (b : Bool) :
    cost (encode (rotRow op o)) b = opndCost o 8 16 := by
  obtain (_ | _ | _ | _ | _ | _ | _) | _ := o <;> cases op <;> rfl

theorem cost_bit (y : B3) (o : Opnd8) (b : Bool) :
    cost (encode (bitRow y o)) b = opndCost o 8 12 := by
  obtain (_ | _ | _ | _ | _ | _ | _) | _ := o <;> cases y <;> rfl

theorem cost_res (y : B3) (o : Opnd8) (b : Bool) :
    cost (encode (resRow y o)) b = opndCost o 8 16 := by
  obtain (_ | _ | _ | _ | _ | _ | _) | _ := o <;> cases y <;> rfl

theorem cost_set (y : B3) (o : Opnd8) (b : Bool) :
    cost (encode (setRow y o)) b = opndCost o 8 16 := by
  obtain (_ | _ | _ | _ | _ | _ | _) | _ := o <;> cases y <;> rfl

/-! ### The rows -/

/-- The instruction is an effect apart from the clock, and then the cost that R730 gives its bytes. -/
def CostsItsFigure (i : Instr) : Prop :=
  ∃ f, Untimed f ∧ ∀ s, exec i s = done (cost (encode i) (opcodeTaken s (encode i))) (f s)

namespace CostsItsFigure

/-- A row with one figure. -/
theorem of_done {i : Instr} {n : Nat} {f : State → State} (he : ∀ s, exec i s = done n (f s))
    (hc : ∀ b, cost (encode i) b = n) (hf : Untimed f) : CostsItsFigure i :=
  ⟨f, hf, fun s => by rw [he, hc]⟩

/-- A row whose figure is read off the table, where it stands once for taken and once for not taken. -/
theorem of_row {i : Instr} {n : Nat} {f : State → State} (he : ∀ s, exec i s = done n (f s))
    (hct : cost (encode i) true = n) (hcf : cost (encode i) false = n) (hf : Untimed f) :
    CostsItsFigure i :=
  of_done he (Bool.forall_bool.2 ⟨hcf, hct⟩) hf

/-- A conditional row, with the figure `m` if it is taken and `n` if not. -/
theorem of_doneIf {i : Instr} {cc : Cond} {m n : Nat} {f : State → State}
    (he : ∀ s, exec i s = doneIf cc m n (f s) s)
    (ht : ∀ s, opcodeTaken s (encode i) = s.holds cc)
    (hc : ∀ b, cost (encode i) b = if b then m else n) (hf : Untimed f) : CostsItsFigure i := by
  refine ⟨fun s => if s.holds cc then f s else s, fun s n u q => ?_, fun s => ?_⟩
  · simp only [State.withClock_holds, hf s n u q]
    split <;> rfl
  · rw [he, ht, hc]
    by_cases h : s.holds cc = true <;> simp [doneIf, h]

/-- R565: `PREFIX` costs what the row it selects costs. -/
theorem of_PREFIX {op2 : Byte} (h : CostsItsFigure (decodeSecondary op2)) :
    CostsItsFigure (.PREFIX op2) := by
  obtain ⟨f, hf, he⟩ := h
  rw [(decodeSecondary_row op2).2] at he
  exact ⟨f, hf, fun s => (exec_PREFIX_eq_decodeSecondary op2 s).trans (he s)⟩

end CostsItsFigure

open CostsItsFigure

theorem costsItsFigure_rot (op : Rot8) (o : Opnd8) : CostsItsFigure (rotRow op o) :=
  of_done (exec_rot op o) (cost_rot op o) (.modifyOpnd _ o)

theorem costsItsFigure_bit (y : B3) (o : Opnd8) : CostsItsFigure (bitRow y o) :=
  of_done (exec_bit y o) (cost_bit y o) (.testBit y o)

theorem costsItsFigure_res (y : B3) (o : Opnd8) : CostsItsFigure (resRow y o) :=
  of_done (exec_res y o) (cost_res y o) (.changeBit false y o)

theorem costsItsFigure_set (y : B3) (o : Opnd8) : CostsItsFigure (setRow y o) :=
  of_done (exec_set y o) (cost_set y o) (.changeBit true y o)

/-- Each row has the cost of R730, and its shared operation is apart from the clock. -/
theorem costsItsFigure (i : Instr) : CostsItsFigure i := by
  induction i using Instr.byForm with
  | ld dst src =>
    cases dst with
    | reg r =>
      cases src with
      | reg q => exact of_done (exec_ldReg r q) (cost_ldReg r q) (.ldRegReg r q)
      | hl => exact of_done (exec_ldRegHL r) (cost_ldRegHL r) (.ldRegMem r _ fun _ _ _ _ => rfl)
    | hl =>
      cases src with
      | reg q =>
        exact of_done (exec_ldHLReg q) (cost_ldHLReg q) (by cases q <;> exact fun _ _ _ _ => rfl)
      | hl => exact of_row exec_halt rfl rfl .halt
  | ldImm dst n =>
    cases dst with
    | reg r => exact of_done (exec_ldImmReg r n) (cost_ldImmReg r n) (.setReg r n)
    | hl => exact of_row (exec_ldImmHL n) rfl rfl fun _ _ _ _ => rfl
  | alu op o => exact of_done (exec_alu op o) (cost_alu op o) (.aluOpnd op o)
  | aluImm op n => exact of_done (exec_aluImm op n) (cost_aluImm op n) (.aluValue op n)
  | inc o => exact of_done (exec_inc o) (cost_inc o) (.modifyOpnd _ o)
  | dec o => exact of_done (exec_dec o) (cost_dec o) (.modifyOpnd _ o)
  | ldR16 rr n =>
    exact of_done (exec_ldR16 rr n) (by rintro (_ | _) <;> cases rr <;> rfl) (.setR16 rr _ (by simp))
  | addHL rr =>
    exact of_done (exec_addHL rr) (by rintro (_ | _) <;> cases rr <;> rfl)
      (by cases rr <;> exact fun _ _ _ _ => rfl)
  | incR16 rr =>
    exact of_done (exec_incR16 rr) (by rintro (_ | _) <;> cases rr <;> rfl) (.setR16 rr _ (by simp))
  | decR16 rr =>
    exact of_done (exec_decR16 rr) (by rintro (_ | _) <;> cases rr <;> rfl) (.setR16 rr _ (by simp))
  | storeA m =>
    exact of_done (exec_storeA m) (by rintro (_ | _) <;> cases m <;> rfl)
      (by cases m <;> exact fun _ _ _ _ => rfl)
  | loadA m =>
    exact of_done (exec_loadA m) (by rintro (_ | _) <;> cases m <;> rfl)
      (by cases m <;> exact fun _ _ _ _ => rfl)
  | push rr =>
    exact of_done (exec_push rr) (by rintro (_ | _) <;> cases rr <;> rfl)
      (by cases rr <;> exact fun _ _ _ _ => rfl)
  | pop rr =>
    exact of_done (exec_pop rr) (by rintro (_ | _) <;> cases rr <;> rfl)
      (by cases rr <;> exact fun _ _ _ _ => rfl)
  | jrCond cc e =>
    exact of_doneIf (exec_jrCond cc e) (opcodeTaken_jrCond · cc e)
      (by rintro (_ | _) <;> cases cc <;> rfl) fun _ _ _ _ => rfl
  | jpCond cc a =>
    exact of_doneIf (exec_jpCond cc a) (opcodeTaken_jpCond · cc a)
      (by rintro (_ | _) <;> cases cc <;> rfl) fun _ _ _ _ => rfl
  | callCond cc a =>
    exact of_doneIf (exec_callCond cc a) (opcodeTaken_callCond · cc a)
      (by rintro (_ | _) <;> cases cc <;> rfl) fun _ _ _ _ => rfl
  | retCond cc =>
    exact of_doneIf (exec_retCond cc) (opcodeTaken_retCond · cc)
      (by rintro (_ | _) <;> cases cc <;> rfl) fun _ _ _ _ => rfl
  | rst y =>
    exact of_done (exec_rst y) (by rintro (_ | _) <;> cases y <;> rfl) fun _ _ _ _ => rfl
  | rot op o => exact costsItsFigure_rot op o
  | bit y o => exact costsItsFigure_bit y o
  | res y o => exact costsItsFigure_res y o
  | set y o => exact costsItsFigure_set y o
  | rowNOP => exact of_row exec_NOP rfl rfl fun _ _ _ _ => rfl
  | rowRLCA => exact of_row exec_RLCA rfl rfl fun _ _ _ _ => rfl
  | rowLD_ma16_SP a => exact of_row (exec_LD_ma16_SP a) rfl rfl fun _ _ _ _ => rfl
  | rowRRCA => exact of_row exec_RRCA rfl rfl fun _ _ _ _ => rfl
  | rowSTOP n => exact of_row (exec_STOP n) rfl rfl fun _ _ _ _ => rfl
  | rowRLA => exact of_row exec_RLA rfl rfl fun _ _ _ _ => rfl
  | rowJR_e8 e => exact of_row (exec_JR_e8 e) rfl rfl fun _ _ _ _ => rfl
  | rowRRA => exact of_row exec_RRA rfl rfl fun _ _ _ _ => rfl
  | rowDAA => exact of_row exec_DAA rfl rfl fun _ _ _ _ => rfl
  | rowCPL => exact of_row exec_CPL rfl rfl fun _ _ _ _ => rfl
  | rowSCF => exact of_row exec_SCF rfl rfl fun _ _ _ _ => rfl
  | rowCCF => exact of_row exec_CCF rfl rfl fun _ _ _ _ => rfl
  | rowJP_a16 a => exact of_row (exec_JP_a16 a) rfl rfl fun _ _ _ _ => rfl
  | rowRET => exact of_row exec_RET rfl rfl fun _ _ _ _ => rfl
  | rowPREFIX op2 =>
    exact of_PREFIX (decodeSecondary_byForm costsItsFigure_rot costsItsFigure_bit costsItsFigure_res
      costsItsFigure_set op2)
  | rowCALL_a16 a => exact of_row (exec_CALL_a16 a) rfl rfl fun _ _ _ _ => rfl
  | rowRETI => exact of_row exec_RETI rfl rfl fun _ _ _ _ => rfl
  | rowLDH_ma8_A n => exact of_row (exec_LDH_ma8_A n) rfl rfl fun _ _ _ _ => rfl
  | rowLDH_mC_A => exact of_row exec_LDH_mC_A rfl rfl fun _ _ _ _ => rfl
  | rowADD_SP_e8 e => exact of_row (exec_ADD_SP_e8 e) rfl rfl fun _ _ _ _ => rfl
  | rowJP_HL => exact of_row exec_JP_HL rfl rfl fun _ _ _ _ => rfl
  | rowLD_ma16_A a => exact of_row (exec_LD_ma16_A a) rfl rfl fun _ _ _ _ => rfl
  | rowLDH_A_ma8 n => exact of_row (exec_LDH_A_ma8 n) rfl rfl fun _ _ _ _ => rfl
  | rowLDH_A_mC => exact of_row exec_LDH_A_mC rfl rfl fun _ _ _ _ => rfl
  | rowDI => exact of_row exec_DI rfl rfl fun _ _ _ _ => rfl
  | rowLD_HL_SP_e8 e => exact of_row (exec_LD_HL_SP_e8 e) rfl rfl fun _ _ _ _ => rfl
  | rowLD_SP_HL => exact of_row exec_LD_SP_HL rfl rfl fun _ _ _ _ => rfl
  | rowLD_A_ma16 a => exact of_row (exec_LD_A_ma16 a) rfl rfl fun _ _ _ _ => rfl
  | rowEI => exact of_row exec_EI rfl rfl .ei

theorem figure_eq (s : State) (n : Nat) : figure s n = inUnit s.params.cycleUnit n := by
  unfold figure inUnit
  cases s.params.cycleUnit <;> rfl

/-- Settles O37: the effect leaves the clock, and the cost is added in its unit. -/
theorem everyInstructionCostsItsFigure : Obligations.EveryInstructionCostsItsFigure := by
  intro i s t h
  obtain ⟨f, hf, he⟩ := costsItsFigure i
  rw [he] at h
  rw [done_next h, State.charge_cpu_cycles, hf.cycles, hf.cycleUnit, figure_eq]

/-! ### The fetch and the clock -/

/-- What a fetch gives, with `g` applied to the state it leaves. -/
def Fetched.mapState (g : State → State) : Fetched → Fetched
  | .instr i t => .instr i (g t)
  | .unimplemented rec t => .unimplemented rec (g t)

section

variable (s : State) (n : Nat) (u : CycleUnit) (q : Report)

theorem State.withClock_fetchOpcode :
    (s.withClock n u q).fetchOpcode = (s.fetchOpcode.1, s.fetchOpcode.2.withClock n u q) := by
  have hbug : (s.withClock n u q).cpu.haltBug = s.cpu.haltBug := rfl
  cases hb : s.cpu.haltBug with
  | true => rw [fetchOpcode_of_haltBug hb, fetchOpcode_of_haltBug (hbug.trans hb)]; rfl
  | false => rw [fetchOpcode_eq_fetch8 hb, fetchOpcode_eq_fetch8 (hbug.trans hb)]; rfl

theorem State.withClock_fetchBytes (k : Nat) :
    (s.withClock n u q).fetchBytes k = ((s.fetchBytes k).1, (s.fetchBytes k).2.withClock n u q) := by
  induction k generalizing s with
  | zero => rfl
  | succ k ih =>
    have h8 : (s.withClock n u q).fetch8 = (s.fetch8.1, s.fetch8.2.withClock n u q) := rfl
    simp only [State.fetchBytes, h8, ih]

/-- R151: what a fetch gives does not depend on the clock, and the fetch leaves the clock. -/
theorem State.withClock_fetchInstr :
    (s.withClock n u q).fetchInstr = s.fetchInstr.mapState (·.withClock n u q) := by
  have hadm : ∀ r, admits (s.withClock n u q).params r = admits s.params r := fun _ => rfl
  have hpc : (s.withClock n u q).pc = s.pc := rfl
  simp only [State.fetchInstr, withClock_fetchOpcode, withClock_fetchBytes, hadm, hpc]
  split
  · split
    · rfl
    · split <;> rfl
  · rfl

end

/-! ### Answers apart from the clock -/

/-- An answer with the clock of its next state forgotten. -/
def forgetAnswer : Outcome → Outcome
  | .next t => .next (forgetTime t)
  | .fault r => .fault r
  | .refused r => .refused r

theorem agree_iff (o p : Outcome) : agree o p ↔ forgetAnswer o = forgetAnswer p := by
  cases o <;> cases p <;> simp [agree, forgetAnswer]

/-- R157: what an instruction does but for its cost does not depend on the clock. -/
theorem forgetAnswer_exec (i : Instr) (s : State) :
    forgetAnswer (exec i (forgetTime s)) = forgetAnswer (exec i s) := by
  obtain ⟨f, hf, he⟩ := costsItsFigure i
  have hforget : ∀ (n : Nat) (t : State), forgetAnswer (done n t) = .next (forgetTime t) :=
    fun _ _ => rfl
  have hidem : ∀ t, forgetTime (forgetTime t) = forgetTime t := fun _ => rfl
  rw [he, he, hforget, hforget, hf.forgetTime, hidem]

theorem forgetAnswer_finish (promote : Bool) (o : Outcome) :
    forgetAnswer (finish promote o) = finish promote (forgetAnswer o) := by
  cases o with
  | next t =>
    simp only [forgetAnswer, finish_next, State.promoteIme_eq]
    rfl
  | fault r => rfl
  | refused r => rfl

theorem forgetAnswer_runInstruction (s : State) :
    forgetAnswer (runInstruction (forgetTime s)) = forgetAnswer (runInstruction s) := by
  have hfetch : (forgetTime s).fetchInstr = s.fetchInstr.mapState forgetTime :=
    s.withClock_fetchInstr 0 .T .none
  unfold runInstruction
  rw [hfetch]
  cases s.fetchInstr with
  | instr i t =>
    show forgetAnswer (finish s.cpu.imePending (exec i (forgetTime t))) =
      forgetAnswer (finish s.cpu.imePending (exec i t))
    rw [forgetAnswer_finish, forgetAnswer_finish, forgetAnswer_exec]
  | unimplemented rec t => rfl

theorem forgetAnswer_runRunning (s : State) :
    forgetAnswer (runRunning (forgetTime s)) = forgetAnswer (runRunning s) := by
  have hint : (forgetTime s).takesInterrupt = s.takesInterrupt := rfl
  cases ht : s.takesInterrupt with
  | true => rw [runRunning_interrupt ht, runRunning_interrupt (hint.trans ht)]; rfl
  | false =>
    rw [runRunning_fetches ht, runRunning_fetches (hint.trans ht), forgetAnswer_runInstruction]

theorem forgetAnswer_runHalted (s : State) :
    forgetAnswer (runHalted (forgetTime s)) = forgetAnswer (runHalted s) := by
  have hmode : (forgetTime s).params.haltMode = s.params.haltMode := rfl
  have hirq : (forgetTime s).irq = s.irq := rfl
  cases hm : s.params.haltMode with
  | terminal => rw [runHalted_terminal hm, runHalted_terminal (hmode.trans hm)]; rfl
  | hardware =>
    by_cases hi : s.irq = 0
    · rw [runHalted_idle hm hi, runHalted_idle (hmode.trans hm) (hirq.trans hi)]; rfl
    · rw [runHalted_wakes hm hi, runHalted_wakes (hmode.trans hm) (hirq ▸ hi)]
      exact forgetAnswer_runRunning (s.setRun .running)

theorem forgetAnswer_step (s : State) :
    forgetAnswer (step (forgetTime s)) = forgetAnswer (step s) := by
  have hrun : (forgetTime s).cpu.run = s.cpu.run := rfl
  cases hr : s.cpu.run with
  | faulted rec => rw [step_faulted hr, step_faulted (hrun.trans hr)]
  | halted =>
    rw [step_halted hr, step_halted (hrun.trans hr)]
    exact forgetAnswer_runHalted s.beginStep
  | running =>
    rw [step_running hr, step_running (hrun.trans hr)]
    exact forgetAnswer_runRunning s.beginStep

/-- Settles O52: both states step as the one state they are with the clock forgotten. -/
theorem cyclesNeverInfluenceResults : Obligations.CyclesNeverInfluenceResults := by
  intro s u h
  rw [agree_iff, ← forgetAnswer_step s, ← forgetAnswer_step u, h]

end Sys2Proof.Machine
end

section
/-! PROOFS. The step (30_encoding.md section 7, 60_exceptions.md): what a fetch gives, and what follows for
a step in each run state. -/

namespace Sys2Proof.Machine

open Claims Config

/-! ### The bytes a fetch takes -/

/-- R132: an instruction's bytes are its opcode and the bytes the opcode's length asks for, and decode
to it. -/
theorem encode_eq_cons {i : Instr} (hw : i.wellFormed = true) :
    ∃ op tl, encode i = op :: tl ∧ tl.length = opLength op - 1 ∧ decode (op :: tl) = .ok (i, []) := by
  have hd := decodes i hw []
  rw [List.append_nil] at hd
  obtain ⟨op, tl, -, henc, hlen, -, -, hdrop⟩ := decode_ok hd
  have hle : tl.length ≤ opLength op - 1 := List.drop_eq_nil_iff.1 hdrop.symm
  exact ⟨op, tl, henc, by omega, henc ▸ hd⟩

/-- What the bus supplies does not depend on the accesses recorded. -/
theorem supplies_log (u : Bus) (l : List Access) (a : Word) (bs : List Byte) :
    supplies { u with log := l } a bs = supplies u a bs := by
  induction bs generalizing u l a with
  | nil => rfl
  | cons v bs ih =>
    have hans : ({ u with log := l } : Bus).answer a = u.answer a := rfl
    rw [supplies, supplies, hans]
    congr 1
    exact (ih (u.afterRead a) _ (a + 1)).trans rfl

/-- R12, R154: one byte fetched and then `n` more. -/
theorem add_one_add_ofNat (w : Word) (n : Nat) :
    w + 1#16 + BitVec.ofNat 16 n = w + BitVec.ofNat 16 (n + 1) := by
  rw [BitVec.ofNat_add]
  bv_omega

/-- R154: fetching as many bytes as the bus supplies gives them. -/
theorem State.fetchBytes_of_supplies {s : State} {bs : List Byte}
    (h : supplies s.bus s.cpu.pc bs = true) :
    s.fetchBytes bs.length = (bs,
      { s with
        cpu := { s.cpu with pc := s.cpu.pc + BitVec.ofNat 16 bs.length }
        bus := afterSupply s.bus s.cpu.pc bs }) := by
  induction bs generalizing s with
  | nil => simp [State.fetchBytes, afterSupply]
  | cons v bs ih =>
    rw [supplies, Bool.and_eq_true, beq_iff_eq] at h
    obtain ⟨hv, hbs⟩ := h
    rw [List.length_cons, State.fetchBytes]
    dsimp only
    rw [ih (s := s.fetch8.2) hbs]
    simp [s.fetch8_eq, hv, add_one_add_ofNat, afterSupply]

/-- R151, R621: the opcode fetch is one read at pc and clears the HALT-bug latch; pc moves on unless the
latch was set. -/
theorem State.fetchOpcode_eq (s : State) :
    s.fetchOpcode = (s.bus.answer s.cpu.pc,
      { s with
        cpu := { s.cpu with
          pc := if s.cpu.haltBug then s.cpu.pc else s.cpu.pc + 1, haltBug := false }
        bus := s.bus.afterRead s.cpu.pc }) := by
  cases hb : s.cpu.haltBug with
  | true => exact fetchOpcode_of_haltBug hb
  | false => simp [fetchOpcode_eq_fetch8 hb, s.fetch8_eq, hb]

/-! ### What a fetch gives -/

section

variable {s : State}

/-- R151, R154: the bytes fetched decode, and their rows are admitted. -/
theorem State.fetchInstr_of_decode {t u : State} {op : Byte} {bs rest : List Byte} {i : Instr}
    (hop : s.fetchOpcode = (op, t)) (hbs : t.fetchBytes (opLength op - 1) = (bs, u))
    (hd : decode (op :: bs) = .ok (i, rest)) (hrows : rowsAdmitted s.params (op :: bs)) :
    s.fetchInstr = .instr i u := by
  obtain ⟨h1, h2⟩ := hrows
  have hsecond : bs.headD 0 = (op :: bs).getD 1 0 := by cases bs <;> rfl
  have hno : ¬ (op = 0xCB ∧ admits s.params { secondary := true, byte := bs.headD 0 } = false) :=
    fun ⟨hcb, hn⟩ => by
      rw [hsecond, h2 hcb] at hn
      cases hn
  simp only [State.fetchInstr, hop, hbs, hd]
  exact (if_pos h1).trans (if_neg hno)

/-- R153, R160: an unfilled or not admitted opcode gives a record, after the one read of the opcode. -/
theorem State.fetchInstr_of_unimplemented
    (h : s.bus.answer s.cpu.pc ∈ unfilled ∨
      admits s.params { secondary := false, byte := s.bus.answer s.cpu.pc } = false) :
    s.fetchInstr = .unimplemented
      { addr := s.cpu.pc, opcode := s.bus.answer s.cpu.pc, prefixed := false, opcode2 := 0 }
      s.fetchOpcode.2 := by
  have hop : s.fetchOpcode.1 = s.bus.answer s.cpu.pc := by rw [s.fetchOpcode_eq]
  unfold State.fetchInstr
  dsimp only
  rw [hop]
  split
  · rename_i hadm
    have hun : s.bus.answer s.cpu.pc ∈ unfilled := h.resolve_right (by simp [hadm])
    have hlen : opLength (s.bus.answer s.cpu.pc) = 1 :=
      (by decide : ∀ op ∈ unfilled, opLength op = 1) _ hun
    rw [hlen, State.fetchBytes, decode_of_unfilled hlen.le hun]
    rfl
  · rfl

/-- R153, R160: behind an admitted 0xCB a second byte that is not admitted gives a record, after the two
reads. -/
theorem State.fetchInstr_of_second_unimplemented {at2 : Word} {op2 : Byte}
    (hat : at2 = if s.cpu.haltBug then s.cpu.pc else s.cpu.pc + 1)
    (hcb : s.bus.answer s.cpu.pc = 0xCB)
    (hadm : admits s.params { secondary := false, byte := 0xCB } = true)
    (hop2 : (s.bus.afterRead s.cpu.pc).answer at2 = op2)
    (hno : admits s.params { secondary := true, byte := op2 } = false) :
    s.fetchInstr = .unimplemented
      { addr := s.cpu.pc, opcode := 0xCB, prefixed := true, opcode2 := op2 }
      (s.fetchOpcode.2.fetchBytes 1).2 := by
  have hop : s.fetchOpcode.1 = 0xCB := by rw [s.fetchOpcode_eq, hcb]
  have hbs : (s.fetchOpcode.2.fetchBytes 1).1 = [op2] := by
    rw [s.fetchOpcode_eq, ← hop2, hat]
    rfl
  have hlen : opLength 0xCB - 1 = 1 := rfl
  simp only [State.fetchInstr, hop, hlen, hbs, decode_secondary]
  exact (if_pos hadm).trans (if_pos ⟨trivial, hno⟩)

end

/-! ### A Running step -/

theorem interrupted_iff (s : State) : interrupted s ↔ s.takesInterrupt = true := by
  simp [interrupted, State.takesInterrupt, State.irq]

theorem step_fetches {s : State} (hr : s.cpu.run = .running) (hi : ¬interrupted s) :
    step s = runInstruction s.beginStep := by
  rw [interrupted_iff, Bool.not_eq_true] at hi
  rw [step_running hr]
  exact runRunning_fetches hi

theorem runInstruction_of_instr {s t : State} {i : Instr} (h : s.fetchInstr = .instr i t) :
    runInstruction s = finish s.cpu.imePending (exec i t) := by
  rw [runInstruction, h]

theorem runInstruction_of_unimplemented {s t : State} {rec : FaultRecord}
    (h : s.fetchInstr = .unimplemented rec t) :
    runInstruction s = .next (t.enterFaulted s.cpu rec).endStep := by
  rw [runInstruction, h]

theorem finish_eq_ended (promote : Bool) (o : Outcome) : finish promote o = ended promote o := by
  cases o with
  | next t => rw [finish_next, State.promoteIme_eq]; rfl
  | fault r => rfl
  | refused r => rfl

/-- R151, R154: with the opcode fetched and its other bytes supplied from there on, the step is that of
the instruction they decode to. -/
theorem step_of_supplies {s t : State} {i : Instr} {op : Byte} {tl : List Byte}
    (hr : s.cpu.run = .running) (hi : ¬interrupted s) (hop : s.beginStep.fetchOpcode = (op, t))
    (hlen : tl.length = opLength op - 1) (hd : decode (op :: tl) = .ok (i, []))
    (hrows : rowsAdmitted s.params (op :: tl)) (hsup : supplies t.bus t.cpu.pc tl = true) :
    step s = ended s.cpu.imePending (exec i
      { t with
        cpu := { t.cpu with pc := t.cpu.pc + BitVec.ofNat 16 tl.length }
        bus := afterSupply t.bus t.cpu.pc tl }) := by
  have hbs := State.fetchBytes_of_supplies hsup
  rw [hlen] at hbs
  rw [step_fetches hr hi, runInstruction_of_instr (State.fetchInstr_of_decode hop hbs hd hrows),
    finish_eq_ended, hlen]
  rfl

/-- Settles O42: the opcode fetch takes the first byte supplied, and `step_of_supplies` the others. -/
theorem stepRunsTheInstructionAtPc : Obligations.StepRunsTheInstructionAtPc := by
  intro i s hr hi hb hw hrows hsup
  obtain ⟨op, tl, henc, hlen, hd⟩ := encode_eq_cons hw
  rw [henc] at hrows hsup ⊢
  rw [← supplies_log s.bus [], supplies, Bool.and_eq_true, beq_iff_eq] at hsup
  obtain ⟨hop, htl⟩ := hsup
  have hfetch : s.beginStep.fetchOpcode = (op, s.beginStep.fetch8.2) := by
    rw [State.fetchOpcode_eq_fetch8 (s := s.beginStep) hb]
    exact Prod.ext hop rfl
  rw [step_of_supplies hr hi hfetch hlen hd hrows htl, List.length_cons, ← add_one_add_ofNat]
  rfl

/-- Settles O44: the fetch gives the record, and the step keeps of it the bus alone. -/
theorem unimplementedOpcodesFault : Obligations.UnimplementedOpcodesFault := by
  intro op op2 s hr hi hop
  subst hop
  refine ⟨fun h => ⟨?_, step_faulted rfl⟩, fun hcb hadm hop2 hno => ⟨?_, step_faulted rfl⟩⟩
  · have hf := State.fetchInstr_of_unimplemented (s := s.beginStep) h
    rw [step_fetches hr hi, runInstruction_of_unimplemented hf, State.fetchOpcode_eq]
    rfl
  · have hf := State.fetchInstr_of_second_unimplemented (s := s.beginStep) rfl hcb hadm hop2 hno
    rw [step_fetches hr hi, runInstruction_of_unimplemented hf, State.fetchOpcode_eq]
    rfl

/-! ### A step in Halted -/

/-- Settles O45, by the equation of each case. -/
theorem haltedCoreIdlesOrWakes : Obligations.HaltedCoreIdlesOrWakes := by
  intro s hr
  rw [step_halted hr]
  refine ⟨fun hm => ?_, fun hm hi => ?_, fun hm hi => ?_⟩
  · rw [runHalted_terminal (s := s.beginStep) hm]
    rfl
  · rw [runHalted_idle (s := s.beginStep) hm hi, figure_eq]
    rfl
  · rw [runHalted_wakes (s := s.beginStep) hm hi, step_running rfl]
    rfl

/-! ### Every step -/

/-- No instruction changes the parameters or the request input. -/
theorem exec_params_irqs {i : Instr} {s t : State} (h : exec i s = .next t) :
    t.params = s.params ∧ t.irqs = s.irqs := by
  obtain h | ⟨-, rfl⟩ | ⟨-, rfl⟩ | ⟨-, rfl⟩ | ⟨-, rfl⟩ | ⟨-, rfl⟩ := exec_cases i s t h
  · exact ⟨h.params, h.irqs⟩
  · obtain hh | ⟨hh, -⟩ | hh := halt_cases s <;> simp [hh]
  · exact ⟨rfl, rfl⟩
  · exact ⟨rfl, rfl⟩
  · simp [ei_eq]
  · simp [returnFromInterrupt_eq]

/-- R602: an instruction completes, with the parameters and the requests as they were. -/
theorem exec_next (i : Instr) (s : State) : ∃ t, exec i s = .next t ∧ t.params = s.params ∧
    t.irqs = s.irqs ∧ s.cpu.cycles ≤ t.cpu.cycles := by
  obtain ⟨f, hf, he⟩ := costsItsFigure i
  have h := he s
  rw [done_eq] at h
  have hcyc : s.cpu.cycles ≤ (f s).cpu.cycles := (hf.cycles s).ge
  obtain ⟨hparams, hirqs⟩ := exec_params_irqs h
  exact ⟨_, h, hparams, hirqs, hcyc.trans (Nat.le_add_right _ _)⟩

theorem State.fetchInstr_keeps_clock (s : State) :
    s.fetchInstr = s.fetchInstr.mapState (·.withClock s.cpu.cycles s.params.cycleUnit s.out) :=
  s.withClock_fetchInstr s.cpu.cycles s.params.cycleUnit s.out

/-- R151: a step that fetches completes, or enters Faulted with the clock as it was. -/
theorem runInstruction_next (s : State) : ∃ t, runInstruction s = .next t ∧ t.params = s.params ∧
    t.irqs = s.irqs.tail ∧ s.cpu.cycles ≤ t.cpu.cycles := by
  have hg := s.gives_fetchInstr
  have hclock := s.fetchInstr_keeps_clock
  obtain ⟨i, u, hf, hrun⟩ | ⟨rec, u, hf, hrun⟩ := runInstruction_cases s <;> rw [hf] at hg hclock
  · have hcyc : u.cpu.cycles = s.cpu.cycles := by
      injection hclock with _ hu
      rw [hu]
      rfl
    obtain ⟨t, ht, hparams, hirqs, hle⟩ := exec_next i u
    rw [ht, finish_eq_ended] at hrun
    exact ⟨_, hrun, hparams.trans hg.params, congrArg List.tail (hirqs.trans hg.irqs), hcyc ▸ hle⟩
  · obtain ⟨hu, -⟩ := hg
    exact ⟨_, hrun, hu.params, congrArg List.tail hu.irqs, le_rfl⟩

/-- Settles O50, by the cases of `step_cases`. -/
theorem stepAlwaysAnswers : Obligations.StepAlwaysAnswers := by
  intro s
  refine ⟨fun rec hr => step_faulted hr, fun hlive => ?_⟩
  obtain ⟨rec, hr, -⟩ | ⟨-, -, hs⟩ | ⟨-, -, -, hs⟩ | ⟨b, hb, ⟨-, hs⟩ | ⟨-, hs⟩⟩ := step_cases s
  · simp [Cpu.fault, hr] at hlive
  · exact ⟨_, hs, rfl, rfl, le_rfl⟩
  · exact ⟨_, hs, rfl, rfl, Nat.le_add_right _ _⟩
  · rw [State.interruptEntry_eq] at hs
    obtain ⟨-, rfl⟩ | ⟨-, -, -, rfl⟩ := hb <;> exact ⟨_, hs, rfl, rfl, Nat.le_add_right _ _⟩
  · obtain ⟨t, ht, hparams, hirqs, hle⟩ := runInstruction_next b
    obtain ⟨-, rfl⟩ | ⟨-, -, -, rfl⟩ := hb <;> exact ⟨t, hs.trans ht, hparams, hirqs, hle⟩

/-! ### The delay of EI -/

/-- Settles O48, by the cases of `exec_cases`: only DI takes the pending enable away. -/
theorem eiTakesEffectAfterOneInstruction : Obligations.EiTakesEffectAfterOneInstruction := by
  intro i s hime himp
  obtain ⟨t, ht, -⟩ := exec_next i s
  refine ⟨_, by rw [ht]; rfl, by simp, ?_⟩
  by_cases hdi : i = .DI
  · subst hdi
    rw [if_pos rfl, done_next ht]
    rfl
  · rw [if_neg hdi]
    obtain h | ⟨-, rfl⟩ | ⟨-, rfl⟩ | ⟨h, -⟩ | ⟨-, rfl⟩ | ⟨-, rfl⟩ := exec_cases i s t ht
    · simp [h.imePending, himp]
    · obtain hh | ⟨hh, -⟩ | hh := halt_cases s <;> simp [hh, himp]
    · simp [stop, himp]
    · exact absurd h hdi
    · simp [ei_eq, himp]
    · simp [returnFromInterrupt_eq]

end Sys2Proof.Machine
end

section
/-! PROOFS. The model's shared operations in the spec's own formulas: the end of an instruction, flag
writes and r8 operands. -/

namespace Sys2Proof.Machine

open Claims

/-! ### Bytes from numbers -/

theorem byte_toNat (n : Nat) : (byte n).toNat = n % 256 := rfl

theorem byte_eq_zero_iff (n : Nat) : byte n = 0 ↔ n % 256 = 0 := BitVec.toNat_inj.symm

theorem beq_zero_eq_decide (v : Byte) : (v == 0) = decide (v.toNat = 0) := by
  rw [Bool.eq_iff_iff, beq_iff_eq, decide_eq_true_iff]
  exact BitVec.toNat_inj.symm

/-- R200, R201: the low nibble of a byte, which the half-carry rules work on. -/
theorem and_0xF_toNat (v : Byte) : (v &&& 0xF).toNat = v.toNat % 16 := by
  rw [BitVec.toNat_and]
  exact Nat.and_two_pow_sub_one_eq_mod v.toNat 4

theorem and_0xF_eq_iff (v w : Byte) : v &&& 0xF = w ↔ v.toNat % 16 = w.toNat := by
  rw [← and_0xF_toNat, BitVec.toNat_inj]

/-! ### The end of an instruction -/

theorem done_eq_completed (n : Nat) (s : State) : done n s = completed n s := by
  rw [completed, figure_eq]
  rfl

theorem opndCost_eq_onOperand (o : Opnd8) (onReg onMem : Nat) :
    opndCost o onReg onMem = onOperand o onReg onMem := by
  cases o <;> rfl

/-! ### Flags -/

theorem fByte_eq (old : Byte) (f : Flags) :
    BitVec.ofBool f.z ++ BitVec.ofBool f.n ++ BitVec.ofBool f.h ++ BitVec.ofBool f.c ++
      old.extractLsb' 0 4 = fByte old f.z f.n f.h f.c := by
  have hlow : old.toNat % 16 = (old.extractLsb' 0 4).toNat := by simp
  obtain ⟨z, n, h, c⟩ := f
  rw [fByte, hlow]
  generalize old.extractLsb' 0 4 = x
  revert z n h c x
  decide

theorem State.setFlags_eq_withFlags (s : State) (f : Flags) :
    s.setFlags f = withFlags s f.z f.n f.h f.c := by
  rw [State.setFlags, withFlags, fByte_eq]

theorem State.setReg_a_setFlags_eq_withA (s : State) (v : Byte) (f : Flags) :
    (s.setReg .a v).setFlags f = withA s v f.z f.n f.h f.c :=
  State.setFlags_eq_withFlags _ f

theorem carry_eq_fC (s : State) : carry s = s.fC.toNat := rfl

/-! ### r8 operands -/

theorem State.readOpnd_eq (s : State) (o : Opnd8) : s.readOpnd o = (operand s o, afterOperand s o) := by
  cases o <;> rfl

theorem State.writeOpnd_eq_writeBack (s : State) (o : Opnd8) (v : Byte) :
    s.writeOpnd o v = writeBack s o v := by
  cases o <;> rfl

@[simp] theorem afterOperand_cpu (s : State) (o : Opnd8) : (afterOperand s o).cpu = s.cpu := by
  cases o <;> rfl

/-- R234 to R237, R310 to R325: read, change, write back, with the flags. -/
theorem modifyOpnd_eq {f : Byte → Flags → Byte × Flags} {o : Opnd8} {s : State} {v : Byte} {g : Flags}
    (h : f (operand s o) s.flags = (v, g)) :
    modifyOpnd f o s = withFlags (writeBack (afterOperand s o) o v) g.z g.n g.h g.c := by
  simp only [modifyOpnd, State.readOpnd_eq, h, State.writeOpnd_eq_writeBack,
    State.setFlags_eq_withFlags]

end Sys2Proof.Machine
end

section
/-! PROOFS. 8-bit arithmetic and logic (41_alu8.md): each function of the ALU as the spec's formulas over
numbers, then the rows. -/

namespace Sys2Proof.Machine

open Claims

/-! ### The functions of the ALU -/

theorem add8_eq (a b : Byte) (cin : Bool) :
    add8 a b cin = (byte (a.toNat + b.toNat + cin.toNat),
      { z := decide ((a.toNat + b.toNat + cin.toNat) % 256 = 0), n := false
        h := decide (a.toNat % 16 + b.toNat % 16 + cin.toNat > 15)
        c := decide (a.toNat + b.toNat + cin.toNat > 255) }) := by
  simp only [add8, and_0xF_toNat, beq_zero_eq_decide]
  rfl

theorem ofInt_toNat_eq_zero_iff (r : Int) : (BitVec.ofInt 8 r).toNat = 0 ↔ r % 256 = 0 := by
  rw [BitVec.toNat_ofInt]
  omega

theorem sub8_eq (a b : Byte) (cin : Bool) :
    sub8 a b cin = (BitVec.ofInt 8 ((a.toNat : Int) - b.toNat - cin.toNat),
      { z := decide (((a.toNat : Int) - b.toNat - cin.toNat) % 256 = 0), n := true
        h := decide (a.toNat % 16 < b.toNat % 16 + cin.toNat)
        c := decide (a.toNat < b.toNat + cin.toNat) }) := by
  simp only [sub8, and_0xF_toNat, beq_zero_eq_decide, ofInt_toNat_eq_zero_iff]

theorem inc8_eq (v : Byte) (f : Flags) :
    inc8 v f = (byte (v.toNat + 1),
      { z := decide (v.toNat = 255), n := false, h := decide (v.toNat % 16 = 15), c := f.c }) := by
  have hlt := v.isLt
  have hres : v + 1 = byte (v.toNat + 1) := BitVec.eq_of_toNat_eq (BitVec.toNat_add v 1)
  have hz : byte (v.toNat + 1) = 0 ↔ v.toNat = 255 := by
    rw [byte_eq_zero_iff]
    omega
  have hh : v &&& 0xF = 0xF ↔ v.toNat % 16 = 15 := and_0xF_eq_iff v 0xF
  simp only [inc8, hres, beq_eq_decide, hz, hh]

theorem dec8_eq (v : Byte) (f : Flags) :
    dec8 v f = (byte (v.toNat + 255),
      { z := decide (v.toNat = 1), n := true, h := decide (v.toNat % 16 = 0), c := f.c }) := by
  have hlt := v.isLt
  have hres : v - 1 = byte (v.toNat + 255) := by
    refine BitVec.eq_of_toNat_eq ?_
    rw [byte_toNat, BitVec.toNat_sub, Nat.add_comm]
    rfl
  have hz : byte (v.toNat + 255) = 0 ↔ v.toNat = 1 := by
    rw [byte_eq_zero_iff]
    omega
  have hh : v &&& 0xF = 0x0 ↔ v.toNat % 16 = 0 := and_0xF_eq_iff v 0x0
  simp only [dec8, hres, beq_eq_decide, hz, hh]

/-! ### One ALU operation on A and a value -/

section

variable (v : Byte) (s : State)

theorem aluValue_add : aluValue .add v s = addToA s v 0 := by
  simp only [aluValue, alu8, add8_eq, State.setReg_a_setFlags_eq_withA]
  rfl

theorem aluValue_adc : aluValue .adc v s = addToA s v (carry s) := by
  simp only [aluValue, alu8, add8_eq, State.setReg_a_setFlags_eq_withA]
  rfl

theorem aluValue_sub : aluValue .sub v s = subFromA s v 0 (difference s v 0) := by
  simp only [aluValue, alu8, sub8_eq, State.setReg_a_setFlags_eq_withA]
  rfl

theorem aluValue_sbc : aluValue .sbc v s = subFromA s v (carry s) (difference s v (carry s)) := by
  simp only [aluValue, alu8, sub8_eq, State.setReg_a_setFlags_eq_withA]
  rfl

/-- R231: A stays. -/
theorem aluValue_cp : aluValue .cp v s = subFromA s v 0 s.cpu.a := by
  simp only [aluValue, alu8, sub8_eq, State.setFlags_eq_withFlags]
  rfl

theorem aluValue_and : aluValue .and v s = logicToA s (s.cpu.a &&& v) true := by
  simp only [aluValue, alu8, and8, beq_zero_eq_decide, State.setReg_a_setFlags_eq_withA]
  rfl

theorem aluValue_xor : aluValue .xor v s = logicToA s (s.cpu.a ^^^ v) false := by
  simp only [aluValue, alu8, xor8, beq_zero_eq_decide, State.setReg_a_setFlags_eq_withA]
  rfl

theorem aluValue_or : aluValue .or v s = logicToA s (s.cpu.a ||| v) false := by
  simp only [aluValue, alu8, or8, beq_zero_eq_decide, State.setReg_a_setFlags_eq_withA]
  rfl

end

/-! ### The rows of an ALU operation -/

/-- R127, R133: the opcode of an ALU operation on register B, the first of its eight. -/
def aluOpcode : Alu8 → Nat
  | .add => 0x80
  | .adc => 0x88
  | .sub => 0x90
  | .sbc => 0x98
  | .and => 0xA0
  | .xor => 0xA8
  | .or => 0xB0
  | .cp => 0xB8

theorem encode_alu (op : Alu8) (o : Opnd8) :
    encode (aluRow op o) = [byte (aluOpcode op + r8Number o)] := by
  obtain (_ | _ | _ | _ | _ | _ | _) | _ := o <;> cases op <;> rfl

theorem encode_inc (o : Opnd8) : encode (incRow o) = [byte (0x04 + 8 * r8Number o)] := by
  obtain (_ | _ | _ | _ | _ | _ | _) | _ := o <;> rfl

theorem encode_dec (o : Opnd8) : encode (decRow o) = [byte (0x05 + 8 * r8Number o)] := by
  obtain (_ | _ | _ | _ | _ | _ | _) | _ := o <;> rfl

/-- R204: the operand is read, then the operation runs on its value. -/
theorem exec_alu_eq_completed (op : Alu8) (o : Opnd8) (s : State) :
    exec (aluRow op o) s =
      completed (onOperand o 4 8) (aluValue op (operand s o) (afterOperand s o)) := by
  rw [exec_alu, done_eq_completed, opndCost_eq_onOperand, aluOpnd, State.readOpnd_eq]

theorem exec_aluImm_eq_completed (op : Alu8) (n : Byte) (s : State) :
    exec (aluImmRow op n) s = completed 8 (aluValue op n s) := by
  rw [exec_aluImm, done_eq_completed]

/-! Reading the operand changes neither A nor F. -/

@[simp] theorem carry_afterOperand (s : State) (o : Opnd8) : carry (afterOperand s o) = carry s := by
  rw [carry, afterOperand_cpu, carry]

@[simp] theorem difference_afterOperand (s : State) (o : Opnd8) (v : Byte) (cin : Nat) :
    difference (afterOperand s o) v cin = difference s v cin := by
  rw [difference, afterOperand_cpu, difference]

/-- Settles O7: ADD and ADC are `addToA` without and with the prior carry. -/
theorem addAndAdcAddToA : Obligations.AddAndAdcAddToA := by
  intro o n s
  refine ⟨encode_alu .add o, rfl, encode_alu .adc o, rfl, ?_, ?_, ?_, ?_⟩
  · rw [exec_alu_eq_completed, aluValue_add]
  · rw [exec_aluImm_eq_completed, aluValue_add]
  · rw [exec_alu_eq_completed, aluValue_adc, carry_afterOperand]
  · rw [exec_aluImm_eq_completed, aluValue_adc]

/-- Settles O8: SUB and SBC are `subFromA` with their difference, CP with the A it found. -/
theorem subSbcAndCpSubtractFromA : Obligations.SubSbcAndCpSubtractFromA := by
  intro o n s
  refine ⟨encode_alu .sub o, rfl, encode_alu .sbc o, rfl, encode_alu .cp o, rfl,
    ⟨?_, ?_, ?_⟩, ?_, ?_, ?_⟩
  · rw [exec_alu_eq_completed, aluValue_sub, difference_afterOperand]
  · rw [exec_alu_eq_completed, aluValue_sbc, carry_afterOperand, difference_afterOperand]
  · rw [exec_alu_eq_completed, aluValue_cp, afterOperand_cpu]
  · rw [exec_aluImm_eq_completed, aluValue_sub]
  · rw [exec_aluImm_eq_completed, aluValue_sbc]
  · rw [exec_aluImm_eq_completed, aluValue_cp]

/-- Settles O9: each is `logicToA` with its bitwise result. -/
theorem andXorAndOrCombineIntoA : Obligations.AndXorAndOrCombineIntoA := by
  intro o n s
  refine ⟨encode_alu .and o, rfl, encode_alu .xor o, rfl, encode_alu .or o, rfl,
    ⟨?_, ?_, ?_⟩, ?_, ?_, ?_⟩
  · rw [exec_alu_eq_completed, aluValue_and, afterOperand_cpu]
  · rw [exec_alu_eq_completed, aluValue_xor, afterOperand_cpu]
  · rw [exec_alu_eq_completed, aluValue_or, afterOperand_cpu]
  · rw [exec_aluImm_eq_completed, aluValue_and]
  · rw [exec_aluImm_eq_completed, aluValue_xor]
  · rw [exec_aluImm_eq_completed, aluValue_or]

/-- Settles O10: both rows modify their operand, by `inc8` and by `dec8`. -/
theorem incAndDecChangeAByteByOne : Obligations.IncAndDecChangeAByteByOne := by
  intro o s
  refine ⟨encode_inc o, encode_dec o, ?_, ?_⟩
  · rw [exec_inc, done_eq_completed, opndCost_eq_onOperand, modifyOpnd_eq (inc8_eq _ _)]
    rfl
  · rw [exec_dec, done_eq_completed, opndCost_eq_onOperand, modifyOpnd_eq (dec8_eq _ _)]
    rfl

/-! ### Complement and the carry flag -/

theorem not_eq_byte (v : Byte) : ~~~v = byte (255 - v.toNat) := by
  have hlt := v.isLt
  refine BitVec.eq_of_toNat_eq ?_
  rw [BitVec.toNat_not, byte_toNat]
  omega

/-- Settles O13: the three write back the Z they read. -/
theorem cplScfAndCcfKeepZ : Obligations.CplScfAndCcfKeepZ := by
  intro s
  refine ⟨rfl, rfl, rfl, ?_, ?_, ?_⟩
  · rw [exec_CPL, done_eq_completed, complementA, State.setReg_a_setFlags_eq_withA, not_eq_byte]
    rfl
  · rw [exec_SCF, done_eq_completed, setCarry, State.setFlags_eq_withFlags]
    rfl
  · rw [exec_CCF, done_eq_completed, complementCarry, State.setFlags_eq_withFlags]
    rfl

/-! ### Decimal adjust -/

/-- R238: whether DAA corrects the high digit. -/
def daaHigh (a : Byte) (f : Flags) : Bool := f.c || (!f.n && decide (a.toNat > 0x99))

/-- R238: whether DAA corrects the low digit. -/
def daaLow (a : Byte) (f : Flags) : Bool := f.h || (!f.n && decide (a.toNat % 16 > 9))

/-- R238: the correction. -/
def daaChange (high low : Bool) : Nat := (if high then 0x60 else 0) + (if low then 0x06 else 0)

/-- R238: A corrected, downwards after a subtraction. -/
def daaResult (a : Byte) (n : Bool) (change : Nat) : Byte :=
  if n then byte (a.toNat + 256 - change) else byte (a.toNat + change)

theorem daaResult_false_toNat (a : Byte) (change : Nat) :
    (daaResult a false change).toNat = (a.toNat + change) % 256 := rfl

theorem daaResult_true_toNat (a : Byte) (change : Nat) :
    (daaResult a true change).toNat = (a.toNat + 256 - change) % 256 := rfl

/-- Adding `0x60` leaves the low digit, so both corrections may be decided on A as it was. -/
theorem low_digit_after_high_correction (a : Byte) (high : Bool) :
    ((if high then a + 0x60 else a) &&& 0x0F).toNat = a.toNat % 16 := by
  rw [and_0xF_toNat]
  cases high with
  | false => rfl
  | true =>
    rw [if_pos rfl, BitVec.toNat_add]
    change (a.toNat + 96) % 256 % 16 = a.toNat % 16
    omega

theorem daa_corrections_up (a : Byte) (high low : Bool) :
    (if low then (if high then a + 0x60 else a) + 0x06 else (if high then a + 0x60 else a)) =
      daaResult a false (daaChange high low) := by
  refine BitVec.eq_of_toNat_eq ?_
  cases high <;> cases low <;> simp [daaResult, daaChange, byte_toNat, Nat.mod_eq_of_lt a.isLt]

theorem daa_corrections_down (a : Byte) (high low : Bool) :
    (if low then (if high then a - 0x60 else a) - 0x06 else (if high then a - 0x60 else a)) =
      daaResult a true (daaChange high low) := by
  refine BitVec.eq_of_toNat_eq ?_
  cases high <;> cases low <;> simp [daaResult, daaChange, byte_toNat] <;> omega

theorem daa8_eq (a : Byte) (f : Flags) :
    daa8 a f =
      (daaResult a f.n (daaChange (daaHigh a f) (daaLow a f)),
        { z := decide ((daaResult a f.n (daaChange (daaHigh a f) (daaLow a f))).toNat = 0)
          n := f.n, h := false, c := daaHigh a f }) := by
  obtain ⟨z, n, h, c⟩ := f
  cases n with
  | false =>
    simp only [daa8, low_digit_after_high_correction, daa_corrections_up, beq_zero_eq_decide]
    rfl
  | true =>
    simp only [daa8, daa_corrections_down, beq_zero_eq_decide, daaHigh, daaLow]
    simp

/-- Settles O11: DAA writes what `daa8` gives. -/
theorem daaAdjustsAByTheFlags : Obligations.DaaAdjustsAByTheFlags := by
  intro s
  refine ⟨rfl, ?_⟩
  rw [exec_DAA, done_eq_completed, decimalAdjust, daa8_eq, State.setReg_a_setFlags_eq_withA]
  rfl

/-! ### Decimal arithmetic -/

theorem bcd_toNat {n : Nat} (h : n < 100) : (bcd n).toNat = 16 * (n / 10) + n % 10 := by
  rw [bcd, byte_toNat]
  omega

section

variable {x y : Nat} (hx : x < 100) (hy : y < 100) (cin : Bool)
include hx hy

/-- After an addition of BCD bytes DAA corrects exactly the digits that passed 9. The byte sum is
`0x9A` or more, with or without a carry out, exactly when the decimal sum is 100 or more. -/
theorem daa8_add8_bcd :
    let r := add8 (bcd x) (bcd y) cin
    (daa8 r.1 r.2).1 = bcd ((x + y + cin.toNat) % 100) ∧
      (daa8 r.1 r.2).2.c = decide (100 ≤ x + y + cin.toNat) := by
  have hc := cin.toNat_le
  have hsum (r : Nat) : r > 255 ∨ r % 256 > 0x99 ↔ r > 0x99 := by omega
  have hhigh : daaHigh (add8 (bcd x) (bcd y) cin).1 (add8 (bcd x) (bcd y) cin).2 =
      decide (100 ≤ x + y + cin.toNat) := by
    simp only [add8_eq, daaHigh, byte_toNat, bcd_toNat hx, bcd_toNat hy, Bool.not_false,
      Bool.true_and, ← Bool.decide_or, hsum, decide_eq_decide]
    omega
  have hlow : daaLow (add8 (bcd x) (bcd y) cin).1 (add8 (bcd x) (bcd y) cin).2 =
      decide (10 ≤ x % 10 + y % 10 + cin.toNat) := by
    simp only [add8_eq, daaLow, byte_toNat, bcd_toNat hx, bcd_toNat hy, Bool.not_false,
      Bool.true_and, ← Bool.decide_or, decide_eq_decide]
    omega
  dsimp only
  rw [daa8_eq, hhigh, hlow]
  refine ⟨BitVec.eq_of_toNat_eq ?_, rfl⟩
  rw [bcd_toNat (Nat.mod_lt _ (by decide))]
  simp only [add8_eq, daaResult_false_toNat, daaChange, byte_toNat, bcd_toNat hx, bcd_toNat hy,
    decide_eq_true_eq]
  split <;> split <;> omega

/-- After a subtraction of BCD bytes DAA corrects exactly the digits that borrowed, which H and C tell. -/
theorem daa8_sub8_bcd :
    let r := sub8 (bcd x) (bcd y) cin
    (daa8 r.1 r.2).1 = bcd ((x + 100 - y - cin.toNat) % 100) ∧
      (daa8 r.1 r.2).2.c = decide (x < y + cin.toNat) := by
  have hc := cin.toNat_le
  have hhigh : daaHigh (sub8 (bcd x) (bcd y) cin).1 (sub8 (bcd x) (bcd y) cin).2 =
      decide (x < y + cin.toNat) := by
    simp only [sub8_eq, daaHigh, bcd_toNat hx, bcd_toNat hy, Bool.not_true,
      Bool.false_and, Bool.or_false, decide_eq_decide]
    omega
  have hlow : daaLow (sub8 (bcd x) (bcd y) cin).1 (sub8 (bcd x) (bcd y) cin).2 =
      decide (x % 10 < y % 10 + cin.toNat) := by
    simp only [sub8_eq, daaLow, bcd_toNat hx, bcd_toNat hy, Bool.not_true,
      Bool.false_and, Bool.or_false, decide_eq_decide]
    omega
  dsimp only
  rw [daa8_eq, hhigh, hlow]
  refine ⟨BitVec.eq_of_toNat_eq ?_, rfl⟩
  rw [bcd_toNat (Nat.mod_lt _ (by decide))]
  simp only [sub8_eq, daaResult_true_toNat, daaChange, bcd_toNat hx, bcd_toNat hy, decide_eq_true_eq,
    BitVec.toNat_ofInt]
  split <;> split <;> omega

end

theorem aluValue_of_ne_cp {op : Alu8} (h : op ≠ .cp) (v : Byte) (s : State) :
    aluValue op v s =
      (s.setReg .a (alu8 op s.cpu.a v s.fC).1).setFlags (alu8 op s.cpu.a v s.fC).2 := by
  cases op with
  | cp => exact absurd rfl h
  | _ => rfl

theorem decimalAdjust_a (s : State) : (decimalAdjust s).cpu.a = (daa8 s.cpu.a s.flags).1 := rfl

theorem carry_decimalAdjust (s : State) :
    carry (decimalAdjust s) = (daa8 s.cpu.a s.flags).2.c.toNat :=
  congrArg (·.c.toNat) (State.flags_setFlags _ _)

/-- An immediate operation that writes A, and DAA behind it, which adjusts its result by its flags. -/
theorem exec_aluImm_exec_DAA {op : Alu8} (hop : op ≠ .cp) (v : Byte) (s : State) :
    ∃ t u, exec (aluImmRow op v) s = .next t ∧ exec .DAA t = .next u ∧
      let r := alu8 op s.cpu.a v s.fC
      u.cpu.a = (daa8 r.1 r.2).1 ∧ carry u = (daa8 r.1 r.2).2.c.toNat := by
  have hflags : ((aluValue op v s).charge 8).flags = (alu8 op s.cpu.a v s.fC).2 := by
    rw [aluValue_of_ne_cp hop]
    exact State.flags_setFlags _ _
  have ha : ((aluValue op v s).charge 8).cpu.a = (alu8 op s.cpu.a v s.fC).1 := by
    rw [aluValue_of_ne_cp hop]
    rfl
  refine ⟨_, _, exec_aluImm op v s, exec_DAA _, ?_⟩
  dsimp only
  rw [← ha, ← hflags]
  exact ⟨decimalAdjust_a _, carry_decimalAdjust _⟩

/-- Settles O12: DAA after `add8` and after `sub8`, each on two BCD bytes. -/
theorem daaMakesAdcAndSbcDecimal : Obligations.DaaMakesAdcAndSbcDecimal := by
  intro x y s hx hy ha
  rw [carry_eq_fC]
  refine ⟨?_, ?_⟩
  · have hc := s.fC.toNat_le
    obtain ⟨t, u, ht, hu, hua, huc⟩ := exec_aluImm_exec_DAA (op := .adc) (by decide) (bcd y) s
    obtain ⟨hres, hcarry⟩ := daa8_add8_bcd hx hy s.fC
    rw [ha] at hua huc
    refine ⟨t, u, ht, hu, hua.trans hres, huc.trans ?_⟩
    rw [alu8, hcarry, Bool.toNat, Bool.cond_decide]
    split <;> omega
  · obtain ⟨t, u, ht, hu, hua, huc⟩ := exec_aluImm_exec_DAA (op := .sbc) (by decide) (bcd y) s
    obtain ⟨hres, hcarry⟩ := daa8_sub8_bcd hx hy s.fC
    rw [ha] at hua huc
    refine ⟨t, u, ht, hu, hua.trans hres, ?_⟩
    rw [huc, alu8, hcarry, Bool.toNat_eq_one, decide_eq_true_iff]

end Sys2Proof.Machine
end

section
/-! PROOFS. 16-bit arithmetic (42_alu16.md): `add16hl` and `addspe` as the spec's formulas over numbers,
then the rows. -/

namespace Sys2Proof.Machine

open Claims

/-! ### Words and numbers -/

/-- R260, R261: the low `k` bits of a word, which the half-carry rules work on. -/
theorem and_lowMask_toNat (v : Word) {k : Nat} (hk : k ≤ 16) :
    (v &&& BitVec.ofNat 16 (2 ^ k - 1)).toNat = v.toNat % 2 ^ k := by
  have hpow : 2 ^ k ≤ 2 ^ 16 := Nat.pow_le_pow_right (by decide) hk
  rw [BitVec.toNat_and, BitVec.toNat_ofNat, Nat.mod_eq_of_lt (by omega),
    Nat.and_two_pow_sub_one_eq_mod]

theorem add_one_eq_ofNat (w : Word) : w + 1 = BitVec.ofNat 16 (w.toNat + 1) :=
  BitVec.eq_of_toNat_eq (BitVec.toNat_add w 1)

theorem sub_one_eq_ofNat (w : Word) : w - 1 = BitVec.ofNat 16 (w.toNat + 65535) := by
  refine BitVec.eq_of_toNat_eq ?_
  rw [BitVec.toNat_sub, BitVec.toNat_ofNat, Nat.add_comm]
  rfl

/-- R261: adding a sign-extended byte is adding its signed value, modulo 2^16. -/
theorem add_signExtend_eq_ofInt (w : Word) (e : Byte) :
    w + e.signExtend 16 = BitVec.ofInt 16 ((w.toNat : Int) + e.toInt) := by
  rw [BitVec.ofInt_add, BitVec.ofInt_natCast, BitVec.ofNat_toNat, BitVec.setWidth_eq,
    BitVec.signExtend]

/-! ### The 16-bit functions -/

theorem add16hl_eq (hl v : Word) (z : Bool) :
    add16hl hl v z = (BitVec.ofNat 16 (hl.toNat + v.toNat),
      { z := z, n := false
        h := decide (hl.toNat % 4096 + v.toNat % 4096 > 4095)
        c := decide (hl.toNat + v.toNat > 65535) }) := by
  have hlow (w : Word) : (w &&& 0x0FFF).toNat = w.toNat % 4096 :=
    and_lowMask_toNat w (k := 12) (by decide)
  simp only [add16hl, hlow]

theorem addspe_eq (sp : Word) (e : Byte) :
    addspe sp e = (BitVec.ofInt 16 ((sp.toNat : Int) + e.toInt),
      { z := false, n := false
        h := decide (sp.toNat % 16 + e.toNat % 16 > 15)
        c := decide (sp.toNat % 256 + e.toNat > 255) }) := by
  have hnibble : (sp &&& 0xF).toNat = sp.toNat % 16 := and_lowMask_toNat sp (k := 4) (by decide)
  have hbyte : (sp &&& 0xFF).toNat = sp.toNat % 256 := and_lowMask_toNat sp (k := 8) (by decide)
  simp only [addspe, add_signExtend_eq_ofInt, hnibble, hbyte, and_0xF_toNat]

/-! ### What the rows write -/

theorem addHL_eq (rr : R16) (s : State) :
    addHL rr s =
      withFlags (s.setR16 .hl (BitVec.ofNat 16 (s.hl.toNat + (s.r16 rr).toNat))) s.fZ false
        (decide (s.hl.toNat % 4096 + (s.r16 rr).toNat % 4096 > 4095))
        (decide (s.hl.toNat + (s.r16 rr).toNat > 65535)) := by
  rw [addHL, add16hl_eq, State.setFlags_eq_withFlags]

/-- No 16-bit register holds F, so the order of the two writes does not matter. -/
theorem State.setR16_setFlags_comm (s : State) (rr : R16) (v : Word) (f : Flags) :
    (s.setR16 rr v).setFlags f = (s.setFlags f).setR16 rr v := by
  cases rr <;> rfl

/-- R261: `addspe` into a 16-bit register, which is SP for R265 and HL for R266. -/
theorem setR16_setFlags_addspe (s : State) (rr : R16) (e : Byte) :
    (s.setR16 rr (addspe s.cpu.sp e).1).setFlags (addspe s.cpu.sp e).2 =
      (spFlags s e).setR16 rr (spPlus s e) := by
  rw [addspe_eq, State.setR16_setFlags_comm, State.setFlags_eq_withFlags, spFlags, spPlus]

theorem encode_addHL (rr : R16) : encode (addHLRow rr) = [byte (0x09 + 16 * r16Number rr)] := by
  cases rr <;> rfl

theorem encode_incR16 (rr : R16) : encode (incR16Row rr) = [byte (0x03 + 16 * r16Number rr)] := by
  cases rr <;> rfl

theorem encode_decR16 (rr : R16) : encode (decR16Row rr) = [byte (0x0B + 16 * r16Number rr)] := by
  cases rr <;> rfl

/-- Settles O14: ADD HL,rr writes what `add16hl` gives, and the Z it read. -/
theorem addHLAddsAPairAndKeepsZ : Obligations.AddHLAddsAPairAndKeepsZ := by
  intro rr s
  refine ⟨encode_addHL rr, ?_⟩
  rw [exec_addHL, done_eq_completed, addHL_eq]
  rfl

/-- Settles O16: both rows write `addspe` of SP, one to SP and one to HL. -/
theorem spDisplacementIsSignedForTheValueOnly :
    Obligations.SpDisplacementIsSignedForTheValueOnly := by
  intro e s
  refine ⟨rfl, rfl, ?_, ?_⟩
  · rw [exec_ADD_SP_e8, done_eq_completed, ← setR16_setFlags_addspe]
    rfl
  · rw [exec_LD_HL_SP_e8, done_eq_completed, ← setR16_setFlags_addspe]
    rfl

/-- Settles O15: one more and one less, modulo 2^16, written to the pair alone. -/
theorem incAndDecOfAPairWriteNoFlag : Obligations.IncAndDecOfAPairWriteNoFlag := by
  intro rr s
  refine ⟨encode_incR16 rr, encode_decR16 rr, ?_, ?_⟩
  · rw [exec_incR16, done_eq_completed, add_one_eq_ofNat]
  · rw [exec_decR16, done_eq_completed, sub_one_eq_ofNat]

end Sys2Proof.Machine
end

section
/-! PROOFS. Rotates, shifts and bits (43_rotate_shift_bit.md): `rot8` and the bit operations as the spec's
formulas over numbers, then the rows. -/

namespace Sys2Proof.Machine

open Claims

/-! ### Bits and numbers -/

/-- R310 to R325 join fields with `++`; in numbers the high field counts `2 ^ n` times. -/
theorem append_toNat {m n : Nat} (x : BitVec m) (y : BitVec n) :
    (x ++ y).toNat = 2 ^ n * x.toNat + y.toNat := by
  rw [BitVec.toNat_append, Nat.shiftLeft_eq, Nat.mul_comm, Nat.two_pow_add_eq_or_of_lt y.isLt]

theorem eq_byte_of_toNat_eq {v : Byte} {n : Nat} (h : v.toNat = n) : v = byte n := by
  rw [← h, byte, BitVec.ofNat_toNat, BitVec.setWidth_eq]

theorem b3_toNat_lt (b : B3) : b.toNat < 8 := by
  cases b <;> decide

theorem getLsbD_eq_bitOf (v : Byte) (b : B3) : v.getLsbD b.toNat = bitOf v b :=
  Nat.testBit_eq_decide_div_mod_eq

theorem getLsbD_zero_eq_decide (v : Byte) : v.getLsbD 0 = decide (v.toNat % 2 = 1) := by
  simpa [bitOf, B3.toNat] using getLsbD_eq_bitOf v .n0

theorem getLsbD_seven_eq_decide (v : Byte) : v.getLsbD 7 = decide (128 ≤ v.toNat) :=
  BitVec.msb_eq_decide v

/-! ### Rotates and shifts -/

theorem rotResult_toNat (op : Rot8) (v : Byte) (c : Bool) :
    (rotResult op v c).toNat = rotNat op v.toNat c.toNat := by
  have hlt : v.toNat < 256 := v.isLt
  cases op <;>
    simp only [rotResult, rotNat, append_toNat, BitVec.extractLsb'_toNat, BitVec.toNat_ofBool,
      BitVec.toNat_ofNat, Nat.shiftRight_eq_div_pow] <;>
    omega

theorem rotResult_eq_byte (op : Rot8) (v : Byte) (c : Bool) :
    rotResult op v c = byte (rotNat op v.toNat c.toNat) :=
  eq_byte_of_toNat_eq (rotResult_toNat op v c)

/-- R310 to R325: the bit that leaves is bit 7 to the left and bit 0 to the right; SWAP loses none. -/
theorem rotCarry_eq_rotOut (op : Rot8) (v : Byte) : rotCarry op v = rotOut op v.toNat := by
  cases op with
  | rlc | rl | sla => exact getLsbD_seven_eq_decide v
  | rrc | rr | sra | srl => exact getLsbD_zero_eq_decide v
  | swap => rfl

theorem rot8_eq (op : Rot8) (v : Byte) (f : Flags) :
    rot8 op v f = (byte (rotNat op v.toNat f.c.toNat),
      { z := decide (rotNat op v.toNat f.c.toNat = 0), n := false, h := false
        c := rotOut op v.toNat }) := by
  dsimp only [rot8]
  rw [beq_zero_eq_decide, rotResult_toNat, rotResult_eq_byte, rotCarry_eq_rotOut]

theorem modifyOpnd_rot8 (op : Rot8) (o : Opnd8) (s : State) :
    modifyOpnd (rot8 op) o s = rotated s op o :=
  modifyOpnd_eq (rot8_eq op _ _)

/-- R300 to R303: Z is 0 whatever the result. -/
theorem rotateA_eq (op : Rot8) (s : State) :
    rotateA op s =
      withA s (byte (rotNat op s.cpu.a.toNat (carry s))) false false false
        (rotOut op s.cpu.a.toNat) := by
  rw [rotateA, rot8_eq, State.setReg_a_setFlags_eq_withA]
  rfl

/-! ### Test, reset and set -/

theorem testBit_eq (b : B3) (o : Opnd8) (s : State) :
    testBit b o s =
      withFlags (afterOperand s o) (!(bitOf (operand s o) b)) false true s.fC := by
  simp only [testBit, State.readOpnd_eq, getLsbD_eq_bitOf, State.setFlags_eq_withFlags]
  rfl

section

variable {w : Nat} {x : BitVec w} {i : Nat}

theorem or_twoPow_of_getLsbD (h : x.getLsbD i = true) : x ||| BitVec.twoPow w i = x := by
  refine BitVec.eq_of_getLsbD_eq fun j _ => ?_
  rw [BitVec.getLsbD_or, BitVec.getLsbD_twoPow]
  by_cases hij : i = j
  · subst hij
    simp [h]
  · simp [hij]

/-- Clearing `y`'s bits of `x` before setting them changes nothing. -/
theorem and_not_or_self (x y : BitVec w) : x &&& ~~~y ||| y = x ||| y := by
  ext j hj
  simp [Bool.or_and_distrib_right]

theorem and_not_twoPow_of_getLsbD_eq_false (h : x.getLsbD i = false) :
    x &&& ~~~(BitVec.twoPow w i) = x := by
  refine BitVec.eq_of_getLsbD_eq fun j hj => ?_
  rw [BitVec.getLsbD_and, BitVec.getLsbD_not, BitVec.getLsbD_twoPow]
  by_cases hij : i = j
  · subst hij
    simp [h]
  · simp [hij, hj]

/-- R330: a bit that was clear adds its weight, as nothing carries. -/
theorem or_twoPow_toNat (hi : i < w) (h : x.getLsbD i = false) :
    (x ||| BitVec.twoPow w i).toNat = x.toNat + 2 ^ i := by
  have hdisj : x &&& BitVec.twoPow w i = 0#w := by
    rw [BitVec.and_twoPow, h]
    rfl
  rw [← BitVec.add_eq_or_of_and_eq_zero _ _ hdisj, BitVec.toNat_add_of_and_eq_zero hdisj,
    BitVec.toNat_twoPow_of_lt hi]

/-- R328: a bit that was set gives up its weight: with the bit set again the value is back. -/
theorem and_not_twoPow_toNat (hi : i < w) (h : x.getLsbD i = true) :
    (x &&& ~~~(BitVec.twoPow w i)).toNat = x.toNat - 2 ^ i := by
  have hclear : (x &&& ~~~(BitVec.twoPow w i)).getLsbD i = false := by
    simp [hi]
  have hsum := or_twoPow_toNat hi hclear
  rw [and_not_or_self, or_twoPow_of_getLsbD h] at hsum
  omega

end

/-- R330: bit `b` of `v` set. -/
theorem setBit_eq_byte (v : Byte) (b : B3) :
    v ||| BitVec.twoPow 8 b.toNat =
      byte (if bitOf v b then v.toNat else v.toNat + 2 ^ b.toNat) := by
  refine eq_byte_of_toNat_eq ?_
  rw [← getLsbD_eq_bitOf]
  split
  case isTrue h => rw [or_twoPow_of_getLsbD h]
  case isFalse h => exact or_twoPow_toNat (b3_toNat_lt b) (Bool.eq_false_of_not_eq_true h)

/-- R328: bit `b` of `v` cleared. -/
theorem resetBit_eq_byte (v : Byte) (b : B3) :
    v &&& ~~~(BitVec.twoPow 8 b.toNat) =
      byte (if bitOf v b then v.toNat - 2 ^ b.toNat else v.toNat) := by
  refine eq_byte_of_toNat_eq ?_
  rw [← getLsbD_eq_bitOf]
  split
  case isTrue h => exact and_not_twoPow_toNat (b3_toNat_lt b) h
  case isFalse h =>
    rw [and_not_twoPow_of_getLsbD_eq_false (Bool.eq_false_of_not_eq_true h)]

/-- R330, R331. -/
theorem changeBit_true_eq (b : B3) (o : Opnd8) (s : State) :
    changeBit true b o s =
      writeBack (afterOperand s o) o (byte (if bitOf (operand s o) b then (operand s o).toNat
        else (operand s o).toNat + 2 ^ b.toNat)) := by
  rw [← setBit_eq_byte, ← State.writeOpnd_eq_writeBack, changeBit, State.readOpnd_eq]
  rfl

/-- R328, R329. -/
theorem changeBit_false_eq (b : B3) (o : Opnd8) (s : State) :
    changeBit false b o s =
      writeBack (afterOperand s o) o (byte (if bitOf (operand s o) b
        then (operand s o).toNat - 2 ^ b.toNat else (operand s o).toNat)) := by
  rw [← resetBit_eq_byte, ← State.writeOpnd_eq_writeBack, changeBit, State.readOpnd_eq]
  rfl

/-! ### The rows -/

theorem encode_rot (op : Rot8) (o : Opnd8) :
    encode (rotRow op o) = [0xCB, byte (8 * rotNumber op + r8Number o)] := by
  obtain (_ | _ | _ | _ | _ | _ | _) | _ := o <;> cases op <;> rfl

theorem encode_bit (b : B3) (o : Opnd8) :
    encode (bitRow b o) = [0xCB, byte (0x40 + 8 * b.toNat + r8Number o)] := by
  obtain (_ | _ | _ | _ | _ | _ | _) | _ := o <;> cases b <;> rfl

theorem encode_res (b : B3) (o : Opnd8) :
    encode (resRow b o) = [0xCB, byte (0x80 + 8 * b.toNat + r8Number o)] := by
  obtain (_ | _ | _ | _ | _ | _ | _) | _ := o <;> cases b <;> rfl

theorem encode_set (b : B3) (o : Opnd8) :
    encode (setRow b o) = [0xCB, byte (0xC0 + 8 * b.toNat + r8Number o)] := by
  obtain (_ | _ | _ | _ | _ | _ | _) | _ := o <;> cases b <;> rfl

theorem exec_rot_eq_completed (op : Rot8) (o : Opnd8) (s : State) :
    exec (rotRow op o) s = completed (onOperand o 8 16) (rotated s op o) := by
  rw [exec_rot, done_eq_completed, opndCost_eq_onOperand, modifyOpnd_rot8]

/-- Settles O17: each of the four is `rotateA` with its operation. -/
theorem accumulatorRotatesForceZToZero : Obligations.AccumulatorRotatesForceZToZero := by
  intro s
  refine ⟨rfl, rfl, rfl, rfl, ?_, ?_, ?_, ?_⟩
  · rw [exec_RLCA, done_eq_completed, rotateA_eq]
  · rw [exec_RRCA, done_eq_completed, rotateA_eq]
  · rw [exec_RLA, done_eq_completed, rotateA_eq]
  · rw [exec_RRA, done_eq_completed, rotateA_eq]

/-- Settles O18: the rows of an r8 operand, at a register. -/
theorem rotatesAndShiftsOfARegister : Obligations.RotatesAndShiftsOfARegister :=
  fun op r s => ⟨encode_rot op (.reg r), exec_rot_eq_completed op (.reg r) s⟩

/-- Settles O19: the rows of an r8 operand, at (HL). -/
theorem rotatesAndShiftsOfTheByteAtHL : Obligations.RotatesAndShiftsOfTheByteAtHL :=
  fun op s => ⟨encode_rot op .hl, exec_rot_eq_completed op .hl s⟩

/-- Settles O20: BIT writes the C it read. -/
theorem bitTestsWithoutWriting : Obligations.BitTestsWithoutWriting := by
  intro b o s
  refine ⟨encode_bit b o, ?_⟩
  rw [exec_bit, done_eq_completed, opndCost_eq_onOperand, testBit_eq]
  rfl

/-- Settles O21: the value written has bit `b` at its new value, by `resetBit_eq_byte` and
`setBit_eq_byte`. -/
theorem resAndSetChangeOneBit : Obligations.ResAndSetChangeOneBit := by
  intro b o s
  refine ⟨encode_res b o, encode_set b o, ?_, ?_⟩
  · rw [exec_res, done_eq_completed, opndCost_eq_onOperand, changeBit_false_eq]
  · rw [exec_set, done_eq_completed, opndCost_eq_onOperand, changeBit_true_eq]

end Sys2Proof.Machine
end

section
/-! PROOFS. Loads, stores and stack transfers (44_load_store.md): the loads and stores of one byte, the
16-bit loads, then push and pop in the spec's formulas and that a pop gets back what a push stored. -/

namespace Sys2Proof.Machine

open Claims

/-! ### The rows as bytes -/

theorem encode_ldReg (dst r : Reg8) :
    encode (ldRow (.reg dst) (.reg r)) =
      [byte (0x40 + 8 * r8Number (.reg dst) + r8Number (.reg r))] := by
  cases dst <;> cases r <;> rfl

theorem encode_ldRegHL (dst : Reg8) :
    encode (ldRow (.reg dst) .hl) = [byte (0x46 + 8 * r8Number (.reg dst))] := by
  cases dst <;> rfl

theorem encode_ldHLReg (r : Reg8) : encode (ldRow .hl (.reg r)) = [byte (0x70 + r8Number (.reg r))] := by
  cases r <;> rfl

theorem encode_ldImmReg (dst : Reg8) (n : Byte) :
    encode (ldImmRow (.reg dst) n) = [byte (0x06 + 8 * r8Number (.reg dst)), n] := by
  cases dst <;> rfl

/-- R130: an opcode and a 16-bit immediate, low byte first. -/
theorem opcode_immediate16_eq (op : Byte) (n : Word) :
    [op, loByte n, hiByte n] = [op, byte n.toNat, byte (n.toNat / 256)] := by
  rw [hiByte_eq_byte, loByte_eq_byte]

theorem encode_ldR16 (rr : R16) (n : Word) :
    encode (ldR16Row rr n) =
      [byte (0x01 + 16 * r16Number rr), byte n.toNat, byte (n.toNat / 256)] := by
  rw [← opcode_immediate16_eq]
  cases rr <;> rfl

theorem encode_push (rr : R16Stk) : encode (pushRow rr) = [byte (0xC5 + 16 * stkNumber rr)] := by
  cases rr <;> rfl

theorem encode_pop (rr : R16Stk) : encode (popRow rr) = [byte (0xC1 + 16 * stkNumber rr)] := by
  cases rr <;> rfl

/-! ### Loads and stores of one byte -/

theorem highPage_eq_ofNat (n : Byte) : highPage n = BitVec.ofNat 16 (0xFF00 + n.toNat) := by
  rw [BitVec.ofNat_add, BitVec.ofNat_toNat]
  rfl

/-- R402: the bus is read at an address formed before the register is written. -/
theorem ldRegMem_eq (dst : Reg8) (a : Word) (s : State) :
    ldRegMem dst a s =
      ({ s with bus := s.bus.afterRead a } : State).setReg dst (s.bus.answer a) := rfl

/-- Settles O22: a register takes a register, an immediate or the byte read at HL. -/
theorem loadsIntoARegister : Obligations.LoadsIntoARegister := by
  intro dst r n s
  refine ⟨encode_ldReg dst r, encode_ldImmReg dst n, encode_ldRegHL dst, ?_, ?_, ?_⟩
  · rw [exec_ldReg, done_eq_completed, ldRegReg]
  · rw [exec_ldImmReg, done_eq_completed]
  · rw [exec_ldRegHL, done_eq_completed, ldRegMem_eq]

/-- Settles O23: both rows are one write at HL, which `Bus.read_afterWrite` reads back. -/
theorem storesAtHL : Obligations.StoresAtHL := by
  intro r n s
  refine ⟨encode_ldHLReg r, rfl, ?_, ?_, fun hwf => ?_⟩
  · rw [exec_ldHLReg, done_eq_completed, State.memWrite]
  · rw [exec_ldImmHL, done_eq_completed, State.memWrite]
  · have hread (v : Byte) : Memory.read (s.bus.afterWrite s.hl v).mem s.hl.toNat = v := by
      rw [s.bus.read_afterWrite hwf, if_pos rfl]
    exact ⟨hread (s.reg r), hread n⟩

theorem exec_loadA_eq_completed (m : R16Mem) (s : State) :
    exec (loadARow m) s = completed 8 ((ldRegMem .a (s.memAddr m) s).stepHL m) := by
  rw [exec_loadA, done_eq_completed, loadA]

theorem exec_storeA_eq_completed (m : R16Mem) (s : State) :
    exec (storeARow m) s = completed 8 ((s.memWrite (s.memAddr m) s.cpu.a).stepHL m) := by
  rw [exec_storeA, done_eq_completed]
  rfl

/-- Settles O24: each row reads at its address, and the read leaves HL as the step of HL finds it. -/
theorem loadsOfAFromMemory : Obligations.LoadsOfAFromMemory := by
  intro a n s
  refine ⟨rfl, rfl, rfl, rfl, opcode_immediate16_eq 0xFA a, rfl, rfl, exec_loadA_eq_completed .bc s,
    exec_loadA_eq_completed .de s, exec_loadA_eq_completed .hli s, exec_loadA_eq_completed .hld s,
    ?_, ?_, ?_⟩
  · rw [exec_LD_A_ma16, done_eq_completed, ldRegMem_eq, State.setReg]
  · rw [exec_LDH_A_mC, done_eq_completed, ldRegMem_eq, highPage_eq_ofNat, State.setReg]
  · rw [exec_LDH_A_ma8, done_eq_completed, ldRegMem_eq, highPage_eq_ofNat, State.setReg]

/-- Settles O25: each row writes at its address, and the write leaves HL as the step of HL finds it. -/
theorem storesOfAToMemory : Obligations.StoresOfAToMemory := by
  intro a n s
  refine ⟨rfl, rfl, rfl, rfl, opcode_immediate16_eq 0xEA a, rfl, rfl, exec_storeA_eq_completed .bc s,
    exec_storeA_eq_completed .de s, exec_storeA_eq_completed .hli s, exec_storeA_eq_completed .hld s,
    ?_, ?_, ?_⟩
  · rw [exec_LD_ma16_A, done_eq_completed, State.memWrite]
  · rw [exec_LDH_mC_A, done_eq_completed, State.memWrite, highPage_eq_ofNat]
  · rw [exec_LDH_ma8_A, done_eq_completed, State.memWrite, highPage_eq_ofNat]

/-! ### 16-bit loads -/

/-- R420: SP's low byte at `a`, then its high byte at `a + 1`, modulo 2^16. -/
theorem storeSp_eq (a : Word) (s : State) :
    storeSp a s =
      { s with
        bus := (s.bus.afterWrite a (byte s.cpu.sp.toNat)).afterWrite (BitVec.ofNat 16 (a.toNat + 1))
          (byte (s.cpu.sp.toNat / 256)) } := by
  rw [storeSp, add_one_eq_ofNat, loByte_eq_byte, hiByte_eq_byte]
  rfl

/-- Settles O26: a pair takes the word, SP is stored low byte first, and SP takes HL. -/
theorem sixteenBitLoads : Obligations.SixteenBitLoads := by
  intro rr n s
  refine ⟨encode_ldR16 rr n, opcode_immediate16_eq 0x08 n, rfl, ?_, ?_, ?_⟩
  · rw [exec_ldR16, done_eq_completed]
  · rw [exec_LD_ma16_SP, done_eq_completed, storeSp_eq]
  · rw [exec_LD_SP_HL, done_eq_completed, State.setR16]

/-! ### Push and pop -/

theorem joinBytes_eq_ofNat (hi lo : Byte) :
    joinBytes hi lo = BitVec.ofNat 16 (256 * hi.toNat + lo.toNat) := by
  rw [← joinBytes_toNat, BitVec.ofNat_toNat, BitVec.setWidth_eq]

/-- R424: a byte with its low nibble cleared. -/
theorem highNibble_append_zero_eq_byte (v : Byte) :
    v.extractLsb' 4 4 ++ 0#4 = byte (v.toNat / 16 * 16) := by
  revert v
  decide

theorem State.push16_eq_pushed (s : State) (v : Word) : s.push16 v = pushed s v := by
  rw [State.push16_eq, pushed, hiByte_eq_byte, loByte_eq_byte]

theorem State.pop16_eq (s : State) : s.pop16 = (popValue s, popped s) := by
  refine Prod.ext ?_ s.pop16_state
  rw [State.pop16_value, joinBytes_eq_ofNat, popValue]

/-- R424, R36: AF takes the word's two bytes, F without its low nibble. -/
theorem State.setR16Stk_af (s : State) (v : Word) :
    s.setR16Stk .af v =
      { s with cpu := { s.cpu with
          a := byte (v.toNat / 256), f := byte (v.toNat % 256 / 16 * 16) } } := by
  rw [State.setR16Stk, highNibble_append_zero_eq_byte, hiByte_eq_byte, loByte_eq_byte, byte_toNat]

/-- Settles O27: `push16` is `pushed`, of the pair the row names. -/
theorem pushWritesThePairBelowSP : Obligations.PushWritesThePairBelowSP := by
  intro rr s
  refine ⟨encode_push rr, ?_⟩
  rw [exec_push, done_eq_completed, State.push16_eq_pushed]
  cases rr with
  | bc | de | hl => rfl
  | af => rw [State.r16Stk, joinBytes_eq_ofNat]

/-- Settles O28: `pop16` is `popValue` and `popped`, into the pair the row names. -/
theorem popReadsThePairAtSP : Obligations.PopReadsThePairAtSP := by
  intro rr s
  refine ⟨encode_pop rr, ?_⟩
  rw [exec_pop, done_eq_completed, State.popR16, State.pop16_eq]
  cases rr with
  | bc | de | hl => rfl
  | af => rw [State.setR16Stk_af]

/-! ### A pop after a push -/

/-- R430: what stands in memory after a push: the two writes are at different addresses. -/
theorem State.read_push16 (s : State) (hwf : s.bus.mem.Wf) (v : Word) :
    Memory.read (s.push16 v).bus.mem (s.cpu.sp - 2).toNat = loByte v ∧
      Memory.read (s.push16 v).bus.mem (s.cpu.sp - 1).toNat = hiByte v := by
  have hwf' := s.bus.afterWrite_wf hwf (s.cpu.sp - 1) (hiByte v)
  have hne : s.cpu.sp - 2 ≠ s.cpu.sp - 1 := by bv_omega
  rw [State.push16_eq]
  refine ⟨?_, ?_⟩
  · rw [Bus.read_afterWrite _ hwf', if_pos rfl]
  · rw [Bus.read_afterWrite _ hwf', if_neg hne, Bus.read_afterWrite _ hwf, if_pos rfl]

/-- R430, R431 on a plain RAM: a pop gets back what a push stored, whatever came between them, if memory
and SP are as the push left them. -/
theorem State.pop16_value_of_push16 {s t : State} {v : Word} (hwf : s.bus.mem.Wf)
    (hram : t.bus.answers = []) (hmem : t.bus.mem = (s.push16 v).bus.mem)
    (hsp : t.cpu.sp = s.cpu.sp - 2) : t.pop16.1 = v := by
  obtain ⟨hlo, hhi⟩ := s.read_push16 hwf v
  have hram' : (t.bus.afterRead t.cpu.sp).answers = [] := by
    rw [Bus.afterRead_answers, hram, List.tail_nil]
  have hsp' : s.cpu.sp - 2 + 1 = s.cpu.sp - 1 := by bv_omega
  rw [State.pop16_value, Bus.answer_of_ram hram', Bus.answer_of_ram hram, Bus.afterRead_mem, hmem, hsp,
    hsp', hlo, hhi, joinBytes_hi_lo]

/-- R36: the byte that F takes and the byte that A takes, as one word. -/
theorem joinBytes_clear_low_nibble (v : Word) :
    joinBytes (hiByte v) ((loByte v).extractLsb' 4 4 ++ 0#4) = v &&& 0xFFF0 := by
  have hmask : (0xFFF0 : Word) = joinBytes (BitVec.allOnes 8) 0xF0 := by decide
  calc joinBytes (hiByte v) ((loByte v).extractLsb' 4 4 ++ 0#4)
      = joinBytes (hiByte v &&& BitVec.allOnes 8) (loByte v &&& 0xF0) := by
        rw [highNibble_append_zero_eq_byte, ← and_f0_eq_byte, BitVec.and_allOnes]
    _ = joinBytes (hiByte v) (loByte v) &&& 0xFFF0 := by
        rw [hmask, joinBytes, joinBytes, joinBytes, BitVec.and_append]
    _ = v &&& 0xFFF0 := by rw [joinBytes_hi_lo]

/-- R35, R36: reading a pair of the stack after writing it. -/
theorem State.r16Stk_setR16Stk (s : State) (q : R16Stk) (v : Word) :
    (s.setR16Stk q v).r16Stk q = if q = .af then v &&& 0xFFF0 else v := by
  cases q with
  | bc => exact s.r16_setR16 .bc v
  | de => exact s.r16_setR16 .de v
  | hl => exact s.r16_setR16 .hl v
  | af => exact joinBytes_clear_low_nibble v

theorem State.r16Stk_charge (s : State) (n : Nat) (q : R16Stk) :
    (s.charge n).r16Stk q = s.r16Stk q := by
  cases q <;> rfl

theorem State.push16_sp (s : State) (v : Word) : (s.push16 v).cpu.sp = s.cpu.sp - 2 := by
  rw [State.push16_eq]

theorem State.push16_answers (s : State) (v : Word) :
    (s.push16 v).bus.answers = s.bus.answers := by
  rw [State.push16_eq, Bus.afterWrite_answers, Bus.afterWrite_answers]

theorem State.pop16_sp (s : State) : s.pop16.2.cpu.sp = s.cpu.sp + 2 := by
  rw [State.pop16_state]

theorem State.popR16_sp (s : State) (q : R16Stk) : (s.popR16 q).cpu.sp = s.cpu.sp + 2 := by
  rw [State.popR16, State.setR16Stk_cpu_sp, State.pop16_sp]

/-- Settles O29: POP and RET pop the word that PUSH and CALL pushed, by `State.pop16_value_of_push16`. -/
theorem popUndoesPushAndRetUndoesCall : Obligations.PopUndoesPushAndRetUndoesCall := by
  intro rr q a s hram hwf
  have hram' (v : Word) : (s.push16 v).bus.answers = [] := (s.push16_answers v).trans hram
  refine ⟨⟨_, _, exec_push rr s, exec_pop q _, ?_, ?_⟩,
    ⟨_, _, exec_CALL_a16 a s, exec_RET _, rfl, ?_, ?_⟩⟩
  · have hpop : ((s.push16 (s.r16Stk rr)).charge 16).pop16.1 = s.r16Stk rr :=
      State.pop16_value_of_push16 hwf (hram' _) rfl (s.push16_sp _)
    rw [State.r16Stk_charge, State.popR16, State.r16Stk_setR16Stk, hpop]
  · rw [State.charge_cpu_sp, State.popR16_sp, State.charge_cpu_sp, State.push16_sp,
      BitVec.sub_add_cancel]
  · exact State.pop16_value_of_push16 hwf (hram' _) rfl (s.push16_sp _)
  · rw [State.charge_cpu_sp, ret, State.setPc_cpu_sp, State.pop16_sp, State.charge_cpu_sp, call,
      State.setPc_cpu_sp, State.push16_sp, BitVec.sub_add_cancel]

end Sys2Proof.Machine
end

section
/-! PROOFS. Control transfer (45_control.md): the conditions, the jumps, the calls and the returns in the
spec's formulas. -/

namespace Sys2Proof.Machine

open Claims

/-! ### The rows as bytes -/

theorem encode_jpCond (cc : Cond) (a : Word) :
    encode (jpCondRow cc a) =
      [byte (0xC2 + 8 * ccNumber cc), byte a.toNat, byte (a.toNat / 256)] := by
  rw [← opcode_immediate16_eq]
  cases cc <;> rfl

theorem encode_jrCond (cc : Cond) (e : Byte) :
    encode (jrCondRow cc e) = [byte (0x20 + 8 * ccNumber cc), e] := by
  cases cc <;> rfl

theorem encode_callCond (cc : Cond) (a : Word) :
    encode (callCondRow cc a) =
      [byte (0xC4 + 8 * ccNumber cc), byte a.toNat, byte (a.toNat / 256)] := by
  rw [← opcode_immediate16_eq]
  cases cc <;> rfl

theorem encode_retCond (cc : Cond) :
    encode (retCondRow cc) = [byte (0xC0 + 8 * ccNumber cc)] := by
  cases cc <;> rfl

theorem encode_rst (y : B3) : encode (rstRow y) = [byte (0xC7 + 8 * y.toNat)] := by
  cases y <;> rfl

/-! ### Conditions -/

theorem State.holds_eq_taken (s : State) (cc : Cond) : s.holds cc = taken s cc := by
  cases cc <;> rfl

/-- R500: a conditional row completes as the transfer if it is taken, and else with its cost alone. -/
theorem doneIf_eq_completed (cc : Cond) (onTaken notTaken : Nat) (target s : State) :
    doneIf cc onTaken notTaken target s =
      if taken s cc then completed onTaken target else completed notTaken s := by
  rw [doneIf, State.holds_eq_taken, done_eq_completed, done_eq_completed]

/-! ### Transfers -/

theorem jp_eq_jumped (t : Word) (s : State) : jp t s = jumped s t := rfl

theorem jr_eq_jumped (e : Byte) (s : State) : jr e s = jumped s (relative s e) := by
  rw [jr, add_signExtend_eq_ofInt]
  rfl

theorem call_eq_jumped (t : Word) (s : State) : call t s = jumped (pushed s s.cpu.pc) t := by
  rw [call, State.push16_eq_pushed]
  rfl

/-- R128, R511: `zext_16(y) << 3` is eight times `y`. -/
theorem rst_eq_jumped (y : B3) (s : State) :
    rst y s = jumped (pushed s s.cpu.pc) (BitVec.ofNat 16 (8 * y.toNat)) := by
  have hvector : BitVec.ofNat 16 y.toNat <<< 3 = BitVec.ofNat 16 (8 * y.toNat) := by
    cases y <;> rfl
  rw [rst, call_eq_jumped, hvector]

theorem ret_eq_jumped (s : State) : ret s = jumped (popped s) (popValue s) := by
  rw [ret, State.pop16_eq]
  rfl

theorem returnFromInterrupt_eq_popped (s : State) :
    returnFromInterrupt s =
      { popped s with
        cpu := { (popped s).cpu with pc := popValue s, ime := true, imePending := false } } := by
  rw [returnFromInterrupt, State.pop16_eq]
  rfl

/-! ### The statements -/

/-- Settles O30: every jump is `jp` or `jr`, and a conditional one is taken as `doneIf` says. -/
theorem jumpsSetPcWhenTaken : Obligations.JumpsSetPcWhenTaken := by
  intro cc a e s
  refine ⟨opcode_immediate16_eq 0xC3 a, encode_jpCond cc a, rfl, rfl, encode_jrCond cc e,
    ?_, ?_, ?_, ?_, ?_⟩
  · rw [exec_JP_a16, done_eq_completed, jp_eq_jumped]
  · rw [exec_jpCond, doneIf_eq_completed, jp_eq_jumped]
  · rw [exec_JP_HL, done_eq_completed, jp_eq_jumped]
  · rw [exec_JR_e8, done_eq_completed, jr_eq_jumped]
  · rw [exec_jrCond, doneIf_eq_completed, jr_eq_jumped]

/-- Settles O31: CALL and RST push pc by `push16`, and a call not taken leaves the state as it is. -/
theorem callsPushTheReturnAddress : Obligations.CallsPushTheReturnAddress := by
  intro cc y a s
  refine ⟨opcode_immediate16_eq 0xCD a, encode_callCond cc a, encode_rst y, ?_, ?_, ?_⟩
  · rw [exec_CALL_a16, done_eq_completed, call_eq_jumped]
  · rw [exec_callCond, doneIf_eq_completed, call_eq_jumped]
  · rw [exec_rst, done_eq_completed, rst_eq_jumped]

/-- Settles O32: the returns pop pc by `pop16`, and RETI sets IME with it. -/
theorem returnsPopPc : Obligations.ReturnsPopPc := by
  intro cc s
  refine ⟨rfl, encode_retCond cc, rfl, ?_, ?_, ?_⟩
  · rw [exec_RET, done_eq_completed, ret_eq_jumped]
  · rw [exec_retCond, doneIf_eq_completed, ret_eq_jumped]
  · rw [exec_RETI, done_eq_completed, returnFromInterrupt_eq_popped]

end Sys2Proof.Machine
end

section
/-! PROOFS. System instructions (46_system.md): HALT case by case, then the rows as whole next states. -/

namespace Sys2Proof.Machine

open Claims

/-! ### HALT by mode and request -/

section
variable {s : State}

/-- R561 in terminal mode. -/
theorem halt_of_terminal (hm : s.params.haltMode = .terminal) : halt s = s.setRun .halted := by
  rw [halt, hm]

/-- R561, R621: a request with IME = 0 and no EI pending. -/
theorem halt_of_request (hm : s.params.haltMode = .hardware) (hreq : s.irq ≠ 0)
    (hime : s.cpu.ime = false) (hei : s.cpu.imePending = false) : halt s = s.setHaltBug true := by
  rw [halt, hm]
  exact if_pos ⟨hreq, hime, hei⟩

/-- R561: a request with IME = 0 while an EI is pending (assumption 14). -/
theorem halt_of_request_of_pending (hm : s.params.haltMode = .hardware) (hreq : s.irq ≠ 0)
    (hime : s.cpu.ime = false) (hei : s.cpu.imePending = true) : halt s = s := by
  have hbug : ¬(s.irq ≠ 0 ∧ s.cpu.ime = false ∧ s.cpu.imePending = false) := by simp [hei]
  rw [halt, hm]
  exact (if_neg hbug).trans (if_pos ⟨hreq, hime⟩)

/-- R561 in hardware mode, without a request or with IME = 1. -/
theorem halt_of_not_request (hm : s.params.haltMode = .hardware)
    (hwait : ¬s.irq ≠ 0 ∨ s.cpu.ime = true) : halt s = s.setRun .halted := by
  have hstay : ¬(s.irq ≠ 0 ∧ s.cpu.ime = false) := by
    rwa [not_and_or, Bool.not_eq_false]
  have hbug : ¬(s.irq ≠ 0 ∧ s.cpu.ime = false ∧ s.cpu.imePending = false) :=
    fun ⟨hreq, hime, _⟩ => hstay ⟨hreq, hime⟩
  rw [halt, hm]
  exact (if_neg hbug).trans (if_neg hstay)

end

theorem exec_HALT_eq_completed (s : State) : exec .HALT s = completed 4 (halt s) :=
  (exec_halt s).trans (done_eq_completed 4 _)

/-! ### The statements -/

/-- Settles O33: NOP keeps the state, STOP sets the run state, DI and EI set IME and its latch. -/
theorem nopStopDiAndEi : Obligations.NopStopDiAndEi := by
  intro n s
  refine ⟨rfl, rfl, rfl, rfl, ?_, ?_, ?_, ?_⟩
  · rw [exec_NOP, done_eq_completed]
  · rw [exec_STOP, done_eq_completed, stop, State.setRun]
  · rw [exec_DI, done_eq_completed, di, State.setIme]
  · rw [exec_EI, done_eq_completed, ei_eq, State.setIme]

/-- Settles O34: HALT completes as `halt`, which each mode and request makes one of three effects. -/
theorem haltHaltsOrSetsTheHaltBug : Obligations.HaltHaltsOrSetsTheHaltBug := by
  intro s
  rw [exec_HALT_eq_completed]
  exact ⟨rfl,
    fun hm => congrArg (completed 4) (halt_of_terminal hm),
    fun hm hreq hime hei => congrArg (completed 4) (halt_of_request hm hreq hime hei),
    fun hm hreq hime hei => congrArg (completed 4) (halt_of_request_of_pending hm hreq hime hei),
    fun hm hwait => congrArg (completed 4) (halt_of_not_request hm hwait)⟩

/-- Settles O35: the row that the second byte selects has PREFIX's bytes and its meaning. -/
theorem prefixRunsTheSecondaryRow : Obligations.PrefixRunsTheSecondaryRow := fun op2 s =>
  ⟨rfl, (decodeSecondary_row op2).2, decode_secondary op2 [], exec_PREFIX_eq_decodeSecondary op2 s⟩

end Sys2Proof.Machine
end

section
/-! PROOFS. Exceptions (60_exceptions.md): every instruction completes, the fetch with the HALT bug
pending, interrupt entry and the return from it, and that requests are ignored with IME = 0. -/

namespace Sys2Proof.Machine

open Claims Config

/-! ### Every instruction completes -/

/-- R135: an instruction's bytes begin with a filled opcode. -/
theorem encode_head_filled (i : Instr) : ∃ op tl, encode i = op :: tl ∧ op ∉ unfilled := by
  obtain ⟨hwf, henc⟩ := resolvePrefix_row i
  obtain ⟨op, tl, hcons, hlen, hd⟩ := encode_eq_cons hwf
  refine ⟨op, tl, henc ▸ hcons, fun hop => ?_⟩
  rw [decode_of_unfilled (by omega) hop] at hd
  cases hd

/-- R730: behind an opcode other than 0xCB's no byte counts for the cost. -/
theorem cost_cons_of_ne {op : Byte} (h : op ≠ 0xCB) (tl : List Byte) (isTaken : Bool) :
    cost (op :: tl) isTaken = cost [op] isTaken := by
  have hne : ¬ op.toNat = 0xCB := fun hop => h (BitVec.eq_of_toNat_eq hop)
  exact (if_neg hne).trans (if_neg hne).symm

/-- R730: no figure of the table is below 4. -/
theorem four_le_cost_of_filled : ∀ op ∉ unfilled, op ≠ 0xCB → ∀ isTaken, 4 ≤ cost [op] isTaken := by
  decide

/-- R730: an instruction costs at least 4 T-cycles. -/
theorem four_le_cost (i : Instr) (isTaken : Bool) : 4 ≤ cost (encode i) isTaken := by
  obtain ⟨op, tl, henc, hop⟩ := encode_head_filled i
  rw [henc]
  by_cases hcb : op = 0xCB
  · rw [cost, if_pos (by rw [hcb]; rfl)]
    split
    · split <;> decide
    · decide
  · rw [cost_cons_of_ne hcb]
    exact four_le_cost_of_filled op hop hcb isTaken

/-- D11: four T-cycles or more are at least one cycle in either unit. -/
theorem inUnit_pos {n : Nat} (h : 4 ≤ n) (u : CycleUnit) : 0 < inUnit u n := by
  cases u with
  | T => exact Nat.zero_lt_of_lt h
  | M => exact Nat.div_pos h (by decide)

/-- Settles O36: an instruction is an effect that leaves the clock, and then a cost that is not 0. -/
theorem everyInstructionCompletes : Obligations.EveryInstructionCompletes := by
  intro i s
  obtain ⟨f, hf, he⟩ := costsItsFigure i
  have h := he s
  rw [done_eq] at h
  obtain ⟨hparams, hirqs⟩ := exec_params_irqs h
  have hpos : 0 < inUnit (f s).params.cycleUnit (cost (encode i) (opcodeTaken s (encode i))) :=
    inUnit_pos (four_le_cost i _) _
  refine ⟨_, h, ?_, ?_, hparams, hirqs⟩ <;> rw [State.charge_cpu_cycles, hf.cycles]
  · exact Nat.lt_add_of_pos_right hpos
  · rw [State.charge_out, Nat.add_sub_cancel_left]

/-! ### The HALT bug -/

/-- Settles O43: the opcode fetch leaves pc, so `step_of_supplies` takes the other bytes from there. -/
theorem haltBugFetchesTheOpcodeByteAgain : Obligations.HaltBugFetchesTheOpcodeByteAgain := by
  intro i op rest s hr hi hb hw henc hrows hop hsup
  obtain ⟨op', tl, henc', hlen, hd⟩ := encode_eq_cons hw
  obtain ⟨rfl, rfl⟩ := List.cons.inj (henc'.symm.trans henc)
  rw [henc] at hrows
  have hfetch := State.fetchOpcode_of_haltBug (s := s.beginStep) hb
  have hans : s.beginStep.bus.answer s.beginStep.cpu.pc = op' := hop
  rw [hans] at hfetch
  exact step_of_supplies hr hi hfetch hlen hd hrows ((supplies_log ..).trans hsup)

/-! ### Interrupt entry -/

theorem step_interrupted {s : State} (hr : s.cpu.run = .running) (hi : interrupted s) :
    step s = .next s.beginStep.interruptEntry.endStep := by
  rw [interrupted_iff] at hi
  rw [step_running hr]
  exact runRunning_interrupt hi

/-- R611: of a request, the lowest bit that is set. -/
theorem lowestRequest_spec : ∀ irq : BitVec 5, irq ≠ 0 →
    lowestRequest irq < 5 ∧ irq.getLsbD (lowestRequest irq) = true ∧
      ∀ j < lowestRequest irq, irq.getLsbD j = false := by
  decide

/-- R613: the vector of source `k`. -/
theorem vector_eq_ofNat : ∀ k < 5,
    (0x0040 + (BitVec.ofNat 16 k <<< 3) : Word) = BitVec.ofNat 16 (0x40 + 8 * k) := by
  decide

/-- R611 to R614: a Running step with IME = 1 and a request. -/
theorem step_interrupted_eq {s : State} (hr : s.cpu.run = .running) (hi : interrupted s) :
    step s = .next
      { cpu := { s.cpu with
          run := .running, ime := false, imePending := false
          sp := s.cpu.sp - 2, pc := BitVec.ofNat 16 (0x40 + 8 * lowestRequest s.irq)
          cycles := s.cpu.cycles + figure s 20 }
        bus := ((freshBus s).afterWrite (s.cpu.sp - 1) (byte (s.cpu.pc.toNat / 256))).afterWrite
          (s.cpu.sp - 2) (byte s.cpu.pc.toNat)
        irqs := s.irqs.tail, params := s.params
        out := .interrupt (figure s 20) (lowestRequest s.irq) } := by
  obtain ⟨-, hreq⟩ := id hi
  obtain ⟨hlt, -⟩ := lowestRequest_spec s.irq hreq
  rw [step_interrupted hr hi, State.interruptEntry_eq, hiByte_eq_byte, loByte_eq_byte, figure_eq,
    ← vector_eq_ofNat _ hlt, ← hr]
  rfl

/-- Settles O46: a core that wakes steps as a Running one, by `haltedCoreIdlesOrWakes`. -/
theorem interruptEntryPushesPcAndVectors : Obligations.InterruptEntryPushesPcAndVectors := by
  intro s hrun hi _
  obtain ⟨-, hreq⟩ := id hi
  obtain ⟨hlt, hset, hlow⟩ := lowestRequest_spec s.irq hreq
  refine ⟨lowestRequest s.irq, hlt, hset, hlow, ?_⟩
  obtain hr | ⟨hr, hm⟩ := hrun
  · exact step_interrupted_eq hr hi
  · obtain ⟨-, -, hwakes⟩ := haltedCoreIdlesOrWakes s hr
    rw [hwakes hm hreq]
    exact step_interrupted_eq rfl hi

/-- Settles O47: RETI pops the word that the entry pushed, by `State.pop16_value_of_push16`. -/
theorem retiUndoesInterruptEntry : Obligations.RetiUndoesInterruptEntry := by
  intro s hr hi _ hram hwf
  refine ⟨_, _, step_interrupted hr hi, exec_RETI _, ?_, ?_, rfl, rfl⟩
  · refine State.pop16_value_of_push16 (s := s.beginStep) hwf ?_ ?_ ?_ <;>
      rw [State.interruptEntry_eq]
    · exact hram
    · rw [State.push16_eq]
      rfl
    · rfl
  · rw [returnFromInterrupt_eq, State.interruptEntry_eq]
    exact BitVec.sub_add_cancel _ _

/-! ### Effects apart from the requests -/

/-- `s` with the coming steps' requests `q`. -/
def State.withRequests (s : State) (q : List (BitVec 5)) : State := { s with irqs := q }

section

variable (s : State) (q : List (BitVec 5))

@[simp] theorem State.withRequests_reg (r : Reg8) : (s.withRequests q).reg r = s.reg r := by
  cases r <;> rfl

@[simp] theorem State.withRequests_setReg (r : Reg8) (v : Byte) :
    (s.withRequests q).setReg r v = (s.setReg r v).withRequests q := by
  cases r <;> rfl

@[simp] theorem State.withRequests_r16 (rr : R16) : (s.withRequests q).r16 rr = s.r16 rr := by
  cases rr <;> rfl

@[simp] theorem State.withRequests_setR16 (rr : R16) (v : Word) :
    (s.withRequests q).setR16 rr v = (s.setR16 rr v).withRequests q := by
  cases rr <;> rfl

@[simp] theorem State.withRequests_holds (cc : Cond) : (s.withRequests q).holds cc = s.holds cc := by
  cases cc <;> rfl

@[simp] theorem State.withRequests_readOpnd (o : Opnd8) :
    (s.withRequests q).readOpnd o = ((s.readOpnd o).1, (s.readOpnd o).2.withRequests q) := by
  cases o with
  | reg r => exact Prod.ext (s.withRequests_reg q r) rfl
  | hl => rfl

@[simp] theorem State.withRequests_writeOpnd (o : Opnd8) (v : Byte) :
    (s.withRequests q).writeOpnd o v = (s.writeOpnd o v).withRequests q := by
  cases o with
  | reg r => exact s.withRequests_setReg q r v
  | hl => rfl

end

/-- The effect neither reads nor writes the requests. -/
def Unrequested (f : State → State) : Prop :=
  ∀ s q, f (s.withRequests q) = (f s).withRequests q

namespace Unrequested

theorem setReg (r : Reg8) (v : Byte) : Unrequested (·.setReg r v) :=
  fun s q => s.withRequests_setReg q r v

theorem ldRegReg (dst src : Reg8) : Unrequested (ldRegReg dst src) := fun s q => by
  simp [Machine.ldRegReg]

theorem ldRegMem (r : Reg8) (a : State → Word) (ha : ∀ s q, a (s.withRequests q) = a s) :
    Unrequested fun s => Machine.ldRegMem r (a s) s := fun s q => by
  dsimp only
  rw [ha]
  exact (s.memRead (a s)).2.withRequests_setReg q r _

theorem setR16 (rr : R16) (v : State → Word) (hv : ∀ s q, v (s.withRequests q) = v s) :
    Unrequested fun s => s.setR16 rr (v s) := fun s q => by
  simp [hv]

theorem aluValue (op : Alu8) (v : Byte) : Unrequested (aluValue op v) := fun s q => by
  cases op <;> rfl

theorem aluOpnd (op : Alu8) (o : Opnd8) : Unrequested (aluOpnd op o) := fun s q => by
  rw [Machine.aluOpnd, State.withRequests_readOpnd]
  exact aluValue op _ _ q

theorem modifyOpnd (g : Byte → Flags → Byte × Flags) (o : Opnd8) : Unrequested (modifyOpnd g o) :=
  fun s q => by
    rw [Machine.modifyOpnd, State.withRequests_readOpnd]
    simp only [State.withRequests_writeOpnd]
    rfl

theorem testBit (b : B3) (o : Opnd8) : Unrequested (testBit b o) := fun s q => by
  rw [Machine.testBit, State.withRequests_readOpnd]
  rfl

theorem changeBit (on : Bool) (b : B3) (o : Opnd8) : Unrequested (changeBit on b o) := fun s q => by
  simp [Machine.changeBit]

theorem ei : Unrequested ei := fun s q => by simp only [ei_eq]; rfl

end Unrequested

/-! ### The rows -/

/-- R612: in terminal mode what the controller presents changes nothing in what the instruction does. -/
def IgnoresRequests (i : Instr) : Prop :=
  ∀ s t q, s.params.haltMode = .terminal → exec i s = .next t →
    exec i (s.withRequests q) = .next (t.withRequests q)

namespace IgnoresRequests

theorem of_done {i : Instr} {n : Nat} {f : State → State} (he : ∀ s, exec i s = done n (f s))
    (hf : Unrequested f) : IgnoresRequests i := fun s t q _ h => by
  rw [he] at h
  rw [he, hf, done_next h]
  rfl

theorem of_doneIf {i : Instr} {cc : Cond} {m n : Nat} {f : State → State}
    (he : ∀ s, exec i s = doneIf cc m n (f s) s) (hf : Unrequested f) : IgnoresRequests i :=
  fun s t q _ h => by
    rw [he, doneIf] at h
    rw [he, doneIf, State.withRequests_holds, hf]
    split at h <;> rename_i hcc
    · rw [if_pos hcc, done_next h]
      rfl
    · rw [if_neg hcc, done_next h]
      rfl

/-- R561: HALT looks at the requests in hardware mode alone. -/
theorem halt : IgnoresRequests .HALT := fun s t q hm h => by
  have hm' : (s.withRequests q).params.haltMode = .terminal := hm
  have he : ∀ u, exec .HALT u = done 4 (Machine.halt u) := exec_halt
  rw [he, halt_of_terminal hm] at h
  rw [he, halt_of_terminal hm', done_next h]
  rfl

/-- R565: `PREFIX` is the row it selects. -/
theorem of_PREFIX {op2 : Byte} (h : IgnoresRequests (decodeSecondary op2)) :
    IgnoresRequests (.PREFIX op2) := fun s t q hm ht => by
  rw [exec_PREFIX_eq_decodeSecondary] at ht ⊢
  exact h s t q hm ht

theorem rot (op : Rot8) (o : Opnd8) : IgnoresRequests (rotRow op o) :=
  of_done (exec_rot op o) (.modifyOpnd _ o)

theorem bit (y : B3) (o : Opnd8) : IgnoresRequests (bitRow y o) :=
  of_done (exec_bit y o) (.testBit y o)

theorem res (y : B3) (o : Opnd8) : IgnoresRequests (resRow y o) :=
  of_done (exec_res y o) (.changeBit false y o)

theorem set (y : B3) (o : Opnd8) : IgnoresRequests (setRow y o) :=
  of_done (exec_set y o) (.changeBit true y o)

end IgnoresRequests

open IgnoresRequests in
/-- R612: but for HALT no row's shared operation looks at the requests. -/
theorem ignoresRequests (i : Instr) : IgnoresRequests i := by
  induction i using Instr.byForm with
  | ld dst src =>
    cases dst with
    | reg r =>
      cases src with
      | reg p => exact of_done (exec_ldReg r p) (.ldRegReg r p)
      | hl => exact of_done (exec_ldRegHL r) (.ldRegMem r _ fun _ _ => rfl)
    | hl =>
      cases src with
      | reg p => exact of_done (exec_ldHLReg p) (by cases p <;> exact fun _ _ => rfl)
      | hl => exact IgnoresRequests.halt
  | ldImm dst n =>
    cases dst with
    | reg r => exact of_done (exec_ldImmReg r n) (.setReg r n)
    | hl => exact of_done (exec_ldImmHL n) fun _ _ => rfl
  | alu op o => exact of_done (exec_alu op o) (.aluOpnd op o)
  | aluImm op n => exact of_done (exec_aluImm op n) (.aluValue op n)
  | inc o => exact of_done (exec_inc o) (.modifyOpnd _ o)
  | dec o => exact of_done (exec_dec o) (.modifyOpnd _ o)
  | ldR16 rr n => exact of_done (exec_ldR16 rr n) (.setR16 rr _ fun _ _ => rfl)
  | addHL rr => exact of_done (exec_addHL rr) (by cases rr <;> exact fun _ _ => rfl)
  | incR16 rr => exact of_done (exec_incR16 rr) (.setR16 rr _ (by simp))
  | decR16 rr => exact of_done (exec_decR16 rr) (.setR16 rr _ (by simp))
  | storeA m => exact of_done (exec_storeA m) (by cases m <;> exact fun _ _ => rfl)
  | loadA m => exact of_done (exec_loadA m) (by cases m <;> exact fun _ _ => rfl)
  | push rr => exact of_done (exec_push rr) (by cases rr <;> exact fun _ _ => rfl)
  | pop rr => exact of_done (exec_pop rr) (by cases rr <;> exact fun _ _ => rfl)
  | jrCond cc e => exact of_doneIf (exec_jrCond cc e) fun _ _ => rfl
  | jpCond cc a => exact of_doneIf (exec_jpCond cc a) fun _ _ => rfl
  | callCond cc a => exact of_doneIf (exec_callCond cc a) fun _ _ => rfl
  | retCond cc => exact of_doneIf (exec_retCond cc) fun _ _ => rfl
  | rst y => exact of_done (exec_rst y) fun _ _ => rfl
  | rot op o => exact rot op o
  | bit y o => exact bit y o
  | res y o => exact res y o
  | set y o => exact set y o
  | rowNOP => exact of_done exec_NOP fun _ _ => rfl
  | rowRLCA => exact of_done exec_RLCA fun _ _ => rfl
  | rowLD_ma16_SP a => exact of_done (exec_LD_ma16_SP a) fun _ _ => rfl
  | rowRRCA => exact of_done exec_RRCA fun _ _ => rfl
  | rowSTOP n => exact of_done (exec_STOP n) fun _ _ => rfl
  | rowRLA => exact of_done exec_RLA fun _ _ => rfl
  | rowJR_e8 e => exact of_done (exec_JR_e8 e) fun _ _ => rfl
  | rowRRA => exact of_done exec_RRA fun _ _ => rfl
  | rowDAA => exact of_done exec_DAA fun _ _ => rfl
  | rowCPL => exact of_done exec_CPL fun _ _ => rfl
  | rowSCF => exact of_done exec_SCF fun _ _ => rfl
  | rowCCF => exact of_done exec_CCF fun _ _ => rfl
  | rowJP_a16 a => exact of_done (exec_JP_a16 a) fun _ _ => rfl
  | rowRET => exact of_done exec_RET fun _ _ => rfl
  | rowPREFIX op2 => exact of_PREFIX (decodeSecondary_byForm rot bit res set op2)
  | rowCALL_a16 a => exact of_done (exec_CALL_a16 a) fun _ _ => rfl
  | rowRETI => exact of_done exec_RETI fun _ _ => rfl
  | rowLDH_ma8_A n => exact of_done (exec_LDH_ma8_A n) fun _ _ => rfl
  | rowLDH_mC_A => exact of_done exec_LDH_mC_A fun _ _ => rfl
  | rowADD_SP_e8 e => exact of_done (exec_ADD_SP_e8 e) fun _ _ => rfl
  | rowJP_HL => exact of_done exec_JP_HL fun _ _ => rfl
  | rowLD_ma16_A a => exact of_done (exec_LD_ma16_A a) fun _ _ => rfl
  | rowLDH_A_ma8 n => exact of_done (exec_LDH_A_ma8 n) fun _ _ => rfl
  | rowLDH_A_mC => exact of_done exec_LDH_A_mC fun _ _ => rfl
  | rowDI => exact of_done exec_DI fun _ _ => rfl
  | rowLD_HL_SP_e8 e => exact of_done (exec_LD_HL_SP_e8 e) fun _ _ => rfl
  | rowLD_SP_HL => exact of_done exec_LD_SP_HL fun _ _ => rfl
  | rowLD_A_ma16 a => exact of_done (exec_LD_A_ma16 a) fun _ _ => rfl
  | rowEI => exact of_done exec_EI .ei

/-! ### The step and the requests -/

section

variable (s : State) (q : List (BitVec 5))

theorem State.withRequests_fetchOpcode :
    (s.withRequests q).fetchOpcode = (s.fetchOpcode.1, s.fetchOpcode.2.withRequests q) := by
  rw [State.fetchOpcode_eq, State.fetchOpcode_eq]
  rfl

theorem State.withRequests_fetchBytes (k : Nat) :
    (s.withRequests q).fetchBytes k = ((s.fetchBytes k).1, (s.fetchBytes k).2.withRequests q) := by
  induction k generalizing s with
  | zero => rfl
  | succ k ih =>
    have h8 : (s.withRequests q).fetch8 = (s.fetch8.1, s.fetch8.2.withRequests q) := rfl
    simp only [State.fetchBytes, h8, ih]

/-- R151, R610: what a fetch gives does not depend on the requests, and the fetch leaves them. -/
theorem State.withRequests_fetchInstr :
    (s.withRequests q).fetchInstr = s.fetchInstr.mapState (·.withRequests q) := by
  have hadm : ∀ r, admits (s.withRequests q).params r = admits s.params r := fun _ => rfl
  have hpc : (s.withRequests q).pc = s.pc := rfl
  simp only [State.fetchInstr, withRequests_fetchOpcode, withRequests_fetchBytes, hadm, hpc]
  split
  · split
    · rfl
    · split <;> rfl
  · rfl

end

theorem runInstruction_withRequests {s t : State} (q : List (BitVec 5))
    (hm : s.params.haltMode = .terminal) (h : runInstruction s = .next t) :
    runInstruction (s.withRequests q) = .next (t.withRequests q.tail) := by
  have hg := s.gives_fetchInstr
  have hq := s.withRequests_fetchInstr q
  obtain ⟨i, u, hf, hrun⟩ | ⟨rec, u, hf, hrun⟩ := runInstruction_cases s <;>
    rw [hf] at hg hq <;> rw [hrun] at h
  · obtain ⟨v, hv, -⟩ := exec_next i u
    have hvq := ignoresRequests i u v q ((congrArg _ hg.params).trans hm) hv
    rw [hv, finish_eq_ended] at h
    cases h
    rw [runInstruction_of_instr hq, hvq, finish_eq_ended]
    rfl
  · cases h
    rw [runInstruction_of_unimplemented hq]
    rfl

/-- Settles O51: with IME = 0 a Running step fetches, whatever is requested, and a Halted one stays
Halted in terminal mode. -/
theorem requestsAreIgnoredWithImeClear : Obligations.RequestsAreIgnoredWithImeClear := by
  intro q s t hime hm h
  have hno : ∀ r, ¬interrupted (s.withRequests r) := fun r ⟨hset, _⟩ => by
    cases hset.symm.trans hime
  show step (s.withRequests q) = .next (t.withRequests q.tail)
  have hm' : (s.withRequests q).params.haltMode = .terminal := hm
  cases hr : s.cpu.run with
  | faulted rec =>
    rw [step_faulted hr] at h
    cases h
  | halted =>
    have hr' : (s.withRequests q).cpu.run = .halted := hr
    rw [step_halted hr, runHalted_terminal (s := s.beginStep) hm] at h
    cases h
    rw [step_halted hr', runHalted_terminal (s := (s.withRequests q).beginStep) hm']
    rfl
  | running =>
    rw [step_fetches hr (hno s.irqs)] at h
    rw [step_fetches (s := s.withRequests q) hr (hno q)]
    exact runInstruction_withRequests (s := s.beginStep) q hm h

end Sys2Proof.Machine
end
